-- ==== Sys2Proof/Word.lean ====
section
/-! DEFINITION. The plain words of the model: bytes, check words, distance counters, and the
index types of logical cars, units and table rows. -/

namespace Sys2Proof

/-- One byte of a Carline frame (Chapter 12). -/
abbrev Byte := BitVec 8

/-- The 16-bit frame check register (R2), and the 16-bit wrapping numbers (command sequence). -/
abbrev Word16 := BitVec 16

/-- A value of the train's distance counter: unsigned 32-bit centimetres, wrapping (section 2.1). -/
abbrev Distance := BitVec 32

/-- A logical car position 0 to 11, counted from the leading end of the train. -/
abbrev Car := Fin 12

/-- A tilt actuator unit, identified by unit id 0 to 11. -/
abbrev UnitId := Fin 12

/-- A tilt regime 0 to 7 (section 5.3). -/
abbrev Regime := Fin 8

/-- A marker class 0 to 15 (section 5.1). -/
abbrev MarkerClass := Fin 16

end Sys2Proof
end

