-- ==== Sys2Proof/Syntax.lean ====
section
/-! DEFINITION. The commands of the block: one constructor for each row of
spec/opcode_table.json, in the table's order. The block has no instruction words; a command is an
event at one of its pins, ports, timers or at its request executor. -/

namespace Sys2Proof

/-- The two Carline ports (opening file, "Place in the train"). -/
inductive Port where
  | fore
  | aft
deriving DecidableEq, Repr

/-- The two lateral-acceleration channels (Chapter 3). -/
inductive Channel where
  | p
  | q
deriving DecidableEq, Repr

/-- The commands. A management request's fields stand in the request queue (R170), so the rows
that name a request carry no operand: each is the step in which the request executor takes that
request from the head of its queue and executes it whole (R171; notes/assumptions/1.md). -/
inductive Instr where
  /-- COLD_RESET_ASSERT (R159). -/
  | coldResetAssert
  /-- COLD_RESET_RELEASE (R159), with the level of the eight node-address straps (R3). -/
  | coldResetRelease (straps : Byte)
  /-- PORT_FRAME_RECEIVED (R1): the port, and all the bytes that followed a start delimiter. -/
  | portFrameReceived (port : Port) (run : List Byte)
  /-- AFT_TRANSMIT_END (R11). -/
  | aftTransmitEnd
  /-- FORE_TRANSMIT_END (R13). -/
  | foreTransmitEnd
  /-- ODOMETRY_TIMEOUT (R21). -/
  | odometryTimeout
  /-- CHANNEL_TIMEOUT (R40), of one channel. -/
  | channelTimeout (channel : Channel)
  /-- COMMAND_TIMER_EXPIRY (R118). -/
  | commandTimerExpiry
  /-- ATTENTION_TIMER_EXPIRY (R87). -/
  | attentionTimerExpiry
  /-- READ_STATUS (R174). -/
  | readStatus
  /-- READ_CAR (R146). -/
  | readCar
  /-- READ_MARKERS (R91). -/
  | readMarkers
  /-- READ_BANK (R99). -/
  | readBank
  /-- SET_STATE (R149). -/
  | setState
  /-- WARM_RESTART (R158). -/
  | warmRestart
  /-- SET_LINE_PROFILE (R157). -/
  | setLineProfile
  /-- SET_CAR_PROFILE (R139). -/
  | setCarProfile
  /-- SET_CAR_ORDER (R142). -/
  | setCarOrder
  /-- CLEAR_CAR (R138). -/
  | clearCar
  /-- SET_INTAKE_ENTRY (R5). -/
  | setIntakeEntry
  /-- SET_REGIME_ENTRY (R79). -/
  | setRegimeEntry
  /-- ATTENTION_RELEASE (R86). -/
  | attentionRelease
  /-- CLEAR_MARKER_LOSS (R76). -/
  | clearMarkerLoss
  /-- ROUTE_OPEN (R95). -/
  | routeOpen
  /-- ROUTE_POINTS (R96). -/
  | routePoints
  /-- ROUTE_CLOSE (R97). -/
  | routeClose
  /-- ROUTE_DISCARD (R98). -/
  | routeDiscard
  /-- CAPTURE_START (R161). -/
  | captureStart
  /-- CAPTURE_READ (R163). -/
  | captureRead
  /-- CAPTURE_RELEASE (R165). -/
  | captureRelease
  /-- UNKNOWN_REQUEST (R172). -/
  | unknownRequest
deriving DecidableEq, Repr

end Sys2Proof
end

