-- ==== Sys2Proof/Decode.lean ====
section
/-! DEFINITION. The command that a table word spells. No row of spec/opcode_table.json gives a
word, a mask or fields (every row's "fields" is empty), so no word spells a command. -/

namespace Sys2Proof

/-- No row of the table gives bits: no word of any width spells a command. -/
def decodeTableWord (_nbits _w : Nat) : Option Instr := none

end Sys2Proof
end

