-- ==== Sys2Proof/Machine/Arith.lean ====
section
/-! DEFINITION. The arithmetic of the part: nearest rounding (R113), bounding to a range, and the
signed reading of a difference of two distance counters (section 2.1). -/

namespace Sys2Proof.Machine

/-- R113: the integer nearest to a/b, a tie going away from zero: the sign of a times the floor of
(2|a| + b) divided by 2b. -/
def nearest (a : Int) (b : Nat) : Int := a.sign * (((2 * a.natAbs + b) / (2 * b) : Nat) : Int)

/-- `x` bounded to the range from `lo` to `hi`. -/
def bound (lo hi x : Int) : Int := if x < lo then lo else if hi < x then hi else x

/-- Section 2.1: the difference of two counter values read as a signed 32-bit number. -/
def counterDiff (x y : Distance) : Int := (x - y).toInt

/-- R14, R174: a counter increases by one and stays at 65535 once there. -/
def bump (n : Nat) : Nat := if n < 65535 then n + 1 else n

/-- R53: the largest cell number, 2^40 − 1. -/
def maxCell : Nat := 1099511627775

/-- The twelve logical positions in rising order. -/
def allCars : List Car := [0, 1, 2, 3, 4, 5, 6, 7, 8, 9, 10, 11]

/-- A table over the twelve positions (or units), from the value at each. -/
def tabulate {α : Type} (f : Fin 12 → α) : Vector α 12 :=
  #v[f 0, f 1, f 2, f 3, f 4, f 5, f 6, f 7, f 8, f 9, f 10, f 11]

end Sys2Proof.Machine
end

