-- ==== Sys2Proof/Machine/Check.lean ====
section
/-! DEFINITION. The frame check of R2, used for frames and for the section check of Route Close
(R97). -/

namespace Sys2Proof.Machine

/-- One bit of the division by x^16 + x^12 + x^5 + 1: shift out the top bit, and subtract the
polynomial where it was 1. -/
def checkBit (r : Word16) : Word16 :=
  if r.msb then (r <<< 1) ^^^ 0x1021#16 else r <<< 1

/-- One byte, most significant bit first. -/
def checkByte (r : Word16) (b : Byte) : Word16 :=
  let r := r ^^^ (b.zeroExtend 16 <<< 8)
  checkBit (checkBit (checkBit (checkBit (checkBit (checkBit (checkBit (checkBit r)))))))

/-- R2: preset to all ones, the final register not inverted, the bytes in the order they are sent. -/
def frameCheck (bytes : List Byte) : Word16 := bytes.foldl checkByte 0xFFFF#16

end Sys2Proof.Machine
end

