-- ==== Sys2Proof/Config.lean ====
section
/-! DEFINITION. The free values: what the manual leaves open and no proof can see. The manual
states every value of the part; what it leaves open is the ORDER in which two blocks offer their
frames or give their answers inside one event ("either may be judged first"). Each such order is
an uninterpreted constant applied to the number of open choices made so far
(notes/assumptions/3.md and 4.md). -/

namespace Sys2Proof

/-- The order in which the marker unit, the route store and the capture unit answer one advance
or one line clear of the history line. -/
inductive AnswerOrder where
  | markerRouteCapture
  | markerCaptureRoute
  | routeMarkerCapture
  | routeCaptureMarker
  | captureMarkerRoute
  | captureRouteMarker
deriving DecidableEq, Repr, Inhabited

/-- R12, section 1.6: of an accepted frame's forwarded copy and the reports its block offers,
either may be judged first. True: the copy is offered before the block handles the frame. -/
opaque Config.copyFirst : Nat → Bool

/-- R104, R108, R167: the order of the three answers to an advance or a line clear. -/
opaque Config.answerOrder : Nat → AnswerOrder

/-- R175: the place, among those answers, at which the block that caused the advance or the
clear offers its own report (0: before all three, 3: after all three). -/
opaque Config.reportPlace : Nat → Fin 4

end Sys2Proof
end

