-- ==== Sys2Proof/Machine/State.lean ====
section
/-! DEFINITION. Everything the manual gives the TQ-612 to hold, as plain data, block by block; the
queue of waiting commands; and the state right after a cold reset. -/

namespace Sys2Proof.Machine

/-! ## Ports and queues (Chapter 1) -/

/-- The pins the part reads (opening file, "Electrical summary"). -/
structure Pins where
  /-- The cold-reset pin is held asserted (R159). -/
  coldReset : Bool
  /-- The level of the eight node-address straps as last read (R3). -/
  straps : Byte
deriving DecidableEq, Repr

/-- A whole Carline frame without its start delimiter (section 12.1). The length byte of the header
is the number of payload bytes, and is not held a second time. -/
structure Frame where
  dest : Byte
  source : Byte
  cls : Byte
  seq : Byte
  flags : Byte
  payload : List Byte
  check : Word16
deriving DecidableEq, Repr

/-- The mode of a unit entry of the COMMAND frame (R144). -/
inductive CmdMode where
  | park
  | tilt
  | hold
deriving DecidableEq, Repr

/-- One unit entry of the COMMAND frame: a mode and an angle in cdeg (R144). -/
structure CmdEntry where
  mode : CmdMode
  angle : Int
deriving DecidableEq, Repr

/-- PARK with angle 0. -/
def CmdEntry.parked : CmdEntry := ⟨.park, 0⟩

/-- A COMMAND frame handed to the aft output arbiter, its transmission not yet begun: its header
sequence (R3), its command sequence and its twelve unit entries (R143). -/
structure CommandFrame where
  seq : Byte
  commandSeq : Word16
  entries : Vector CmdEntry 12
deriving DecidableEq, Repr

/-- The two transmitters, the two forwarding queues, the arbiter and the reply reservation
(R3, R10 to R13). -/
structure Ports where
  /-- The frame the aft transmitter is sending. -/
  aftTx : Option Frame
  /-- The frame the fore transmitter is sending. -/
  foreTx : Option Frame
  /-- The aft transmit sequence (R3). -/
  aftSeq : Byte
  /-- The fore transmit sequence (R3). -/
  foreSeq : Byte
  /-- The aft-bound queue, head first. -/
  aftQueue : List Frame
  /-- The fore-bound queue, head first. -/
  foreQueue : List Frame
  /-- The COMMAND frame waiting at the aft output arbiter (R11). -/
  waiting : Option CommandFrame
  /-- A reply reservation is held (R12). -/
  reservation : Bool
deriving DecidableEq, Repr

/-- The nine counters of R174, in its order. Each runs from 0 to 65535 and stays there. -/
structure Counters where
  foreCheck : Nat
  aftCheck : Nat
  seqGaps : Nat
  aftDrops : Nat
  foreDrops : Nat
  reportDrops : Nat
  requestDrops : Nat
  commandSkips : Nat
  capturesMissed : Nat
deriving DecidableEq, Repr

/-- The intake roles (R4). -/
inductive Role where
  | sensorP
  | sensorQ
  | odometry
  | markerReader
  | unitStatus
  | manager
deriving DecidableEq, Repr

/-- A non-empty entry of the intake table (section 1.3). -/
structure IntakeEntry where
  source : Byte
  cls : Byte
  role : Role
  forward : Bool
deriving DecidableEq, Repr

/-- One index of the intake table: the entry, or empty, and its sequence memory, or absent. -/
structure IntakeSlot where
  entry : Option IntakeEntry
  memory : Option Byte
deriving DecidableEq, Repr

/-! ## The line profile (section 9.6) -/

/-- The line profile, field by field in the order of section 9.6. -/
structure LineProfile where
  lineLength : Nat
  commandPeriod : Nat
  vOn : Nat
  hysteresis : Nat
  threshold : Nat
  heldLimit : Nat
  attentionTimeout : Nat
  holdCount : Nat
  failCount : Nat
  trackingLimit : Nat
  trackingCount : Nat
  captureLength : Nat
  reportDestination : Byte
deriving DecidableEq, Repr

/-! ## Odometry (Chapter 2) -/

/-- The odometry states (section 2.2). -/
inductive OdoState where
  | unset
  | tracking
  | lost
deriving DecidableEq, Repr

/-- The odometry record (section 2.2). A timeout is `none` while stopped, else the milliseconds it
was last started at. -/
structure Odometry where
  state : OdoState
  lastDistance : Distance
  remainder : Nat
  debt : Nat
  speed : Nat
  timeout : Option Nat
  uncertain : Bool
  recovery : Nat
deriving DecidableEq, Repr

/-! ## Sensor monitor (Chapter 3) -/

/-- The channel states (section 3.2). -/
inductive ChannelState where
  | absent
  | settling
  | good
deriving DecidableEq, Repr

/-- A lateral-acceleration sample: its stamp and its clamped value (R35). -/
structure Sample where
  stamp : Word16
  value : Int
deriving DecidableEq, Repr

/-- One channel record (section 3.2). -/
structure ChannelRecord where
  state : ChannelState
  settle : Nat
  latest : Option Sample
  paired : Bool
  timeout : Option Nat
deriving DecidableEq, Repr

/-- The pair states (section 3.4). -/
inductive PairState where
  | none
  | singleP
  | singleQ
  | dual
  | disagree
deriving DecidableEq, Repr

/-- A pair (p, q) (R42). -/
structure Pair where
  p : Int
  q : Int
deriving DecidableEq, Repr

/-- The sensor monitor: two channel records and the pair record (sections 3.2 and 3.4). -/
structure Sensor where
  chP : ChannelRecord
  chQ : ChannelRecord
  pairState : PairState
  window : List Pair
  disagreeRun : Nat
  agreeRun : Nat
deriving DecidableEq, Repr

/-! ## Curve history line (Chapter 4) -/

/-- The quality of a closed cell (R54). -/
inductive Quality where
  | dual
  | single
  | held
  | void
deriving DecidableEq, Repr

/-- The quality of a fused sample (R49). -/
inductive SampleQuality where
  | dual
  | single
deriving DecidableEq, Repr

/-- A cell record (R54). -/
structure CellRecord where
  cell : Int
  value : Int
  quality : Quality
  samples : Nat
deriving DecidableEq, Repr

/-- The VOID record of a cell (R62). -/
def CellRecord.void (cell : Int) : CellRecord := ⟨cell, 0, .void, 0⟩

/-- What a slot that is not listed holds: a record that reads VOID (R67). Its cell number, which the
manual does not give and nothing reads, is 0 (notes/assumptions/6.md). -/
def CellRecord.blank : CellRecord := CellRecord.void 0

/-- The cell store, slot by slot, in one canonical form: slots strictly rising, no entry equal to
what an unlisted slot holds. -/
abbrev Store := List (Nat × CellRecord)

/-- The open cell accumulator (R56). -/
structure Accumulator where
  sum : Int
  count : Nat
  worst : Option SampleQuality
deriving DecidableEq, Repr

/-- The emptied accumulator (R56). -/
def Accumulator.empty : Accumulator := ⟨0, 0, none⟩

/-- The history line (R53 to R59). -/
structure Line where
  inputCell : Nat
  clearMark : Nat
  acc : Accumulator
  heldRun : Nat
  store : Store
deriving DecidableEq, Repr

/-! ## Marker unit (Chapter 5) -/

/-- The authorities NONE < LIMITED < FULL (opening file). -/
inductive Authority where
  | none
  | limited
  | full
deriving DecidableEq, Repr

/-- The two banks of the route store (R93). -/
inductive Bank where
  | a
  | b
deriving DecidableEq, Repr

/-- The kinds of marker (section 5.2). -/
inductive MarkerKind where
  | track
  | sectionEnd
deriving DecidableEq, Repr

/-- A marker record (section 5.2). The pending set is a list of positions with no repeats. -/
structure Marker where
  serial : Nat
  kind : MarkerKind
  cls : MarkerClass
  param : Byte
  cell : Nat
  bank : Option Bank
  pending : List Car
deriving DecidableEq, Repr

/-- An entry of the regime table (R78). -/
structure RegimeEntry where
  next : Regime
  authority : Authority
  attention : Bool
  capture : Bool
deriving DecidableEq, Repr

/-- A car regime record (section 5.4). -/
structure CarRegime where
  regime : Regime
  authority : Authority
  waiting : Option Nat
deriving DecidableEq, Repr

/-- The occupied attention record (section 5.5); `timer` is the attention timeout in milliseconds
that its running timer was started at (R85). -/
structure Attention where
  serial : Nat
  car : Car
  cls : MarkerClass
  param : Byte
  regimeBefore : Regime
  copy : RegimeEntry
  timer : Nat
deriving DecidableEq, Repr

/-- The marker unit (Chapter 5). -/
structure MarkerUnit where
  queue : List Marker
  serialCounter : Nat
  loss : Bool
  table : Vector (Vector RegimeEntry 16) 8
  cars : Vector CarRegime 12
  attention : Option Attention
  lastTimedOut : Option Nat
deriving DecidableEq, Repr

/-! ## Route store (Chapter 6) -/

/-- The bank states (R93). -/
inductive BankState where
  | free
  | loading
  | ready
  | inUse
  | draining
deriving DecidableEq, Repr

/-- A section header (R93). -/
structure SectionHeader where
  sectionId : Nat
  length : Nat
  anchor : Option (MarkerClass × Byte)
  endClass : MarkerClass
deriving DecidableEq, Repr

/-- A point of a section (R93). -/
structure Point where
  offset : Nat
  k : Int
  c : Int
  permit : Authority
deriving DecidableEq, Repr

/-- One bank (R93). The loaded point count is the number of points the list holds. -/
structure BankRecord where
  state : BankState
  header : Option SectionHeader
  startCell : Option Nat
  points : List Point
deriving DecidableEq, Repr

/-- The route store. -/
structure Route where
  a : BankRecord
  b : BankRecord
deriving DecidableEq, Repr

/-! ## Demand engine and car supervisor (Chapters 7 and 8) -/

/-- A car profile (section 7.2). -/
structure CarProfile where
  enabled : Bool
  tapOffset : Nat
  preview : Nat
  gain : Nat
  fullLimit : Nat
  limitedLimit : Nat
  rateStep : Nat
  weight : Nat
deriving DecidableEq, Repr

/-- A last computation record (R128). -/
structure Computation where
  quality : Quality
  routeKnown : Bool
  estimate : Int
  authority : Authority
  clamped : Int
  angle : Int
deriving DecidableEq, Repr

/-- The demand engine; θ_prev stands in the car's channel record (R115). -/
structure Demand where
  /-- The command timer: the milliseconds of the period under way (R117). -/
  timer : Option Nat
  gateOpen : Bool
  profiles : Vector CarProfile 12
  last : Vector (Option Computation) 12
deriving DecidableEq, Repr

/-- The car channel states (R130). -/
inductive ChanState where
  | off
  | parked
  | following
  | centring
  | hold
  | failed
deriving DecidableEq, Repr

/-- The unit states (section 8.2). -/
inductive UnitState where
  | ready
  | busy
  | fault
deriving DecidableEq, Repr

/-- A car channel record (R130), with the mark that a PARKED car is held for its unit's PARK entry
(R145). -/
structure CarChannel where
  state : ChanState
  thetaPrev : Int
  lastState : Option UnitState
  lastActual : Option Int
  lastEcho : Option Word16
  age : Nat
  run : Nat
  parkHeld : Bool
deriving DecidableEq, Repr

/-- The car supervisor (R130, R141, R143, R145). -/
structure Cars where
  channels : Vector CarChannel 12
  order : Vector UnitId 12
  commandSeq : Word16
  lastHanded : Vector CmdEntry 12
deriving DecidableEq, Repr

/-! ## Capture unit (Chapter 10) and request executor (Chapters 9 and 11) -/

/-- The capture states (R160). -/
inductive CapState where
  | idle
  | ready
  | done
  | overtaken
deriving DecidableEq, Repr

/-- The capture modes (R160). -/
inductive CapMode where
  | relative
  | absolute
deriving DecidableEq, Repr

/-- What began a capture (R160). -/
inductive CapSource where
  | request
  | regime
deriving DecidableEq, Repr

/-- The capture record (R160). -/
structure Capture where
  state : CapState
  mode : CapMode
  source : CapSource
  car : Option Car
  serial : Option Nat
  start : Int
  stop : Int
  cursor : Int
deriving DecidableEq, Repr

/-- The operating states (R148). -/
inductive OpState where
  | safe
  | standby
  | active
deriving DecidableEq, Repr

/-- An entry of the request queue (R170). -/
structure Request where
  envelope : List Byte
  source : Byte
  accepted : Bool
deriving DecidableEq, Repr

/-- The request executor. The report destination is a field of the line profile (R176). -/
structure Executor where
  opState : OpState
  queue : List Request
deriving DecidableEq, Repr

/-- The MODEL's own bookkeeping: the open choices of order made so far (the argument of the free
values of Config), and the notices of R75 that the route store takes only once the section end
under way is complete (R105). -/
structure Book where
  choices : Nat
  notices : List Bank
deriving DecidableEq, Repr

/-! ## The machine -/

/-- The whole part, and the queue of commands that wait for it, first in, first out. -/
structure State where
  pins : Pins
  nodeAddress : Byte
  ports : Ports
  counters : Counters
  intake : Vector IntakeSlot 16
  profile : LineProfile
  odo : Odometry
  sensor : Sensor
  line : Line
  marker : MarkerUnit
  route : Route
  demand : Demand
  cars : Cars
  capture : Capture
  executor : Executor
  book : Book
  pending : List Instr
deriving DecidableEq, Repr

/-- The part never stops on a fault: the manual gives every command an effect in every state, so
there is no fault to raise. -/
inductive Fault where
deriving DecidableEq, Repr

/-- Reasons to refuse a command. -/
inductive Refusal where
  /-- Raised by an arm of `exec` whose command has no meaning yet (safe). No arm raises it. -/
  | notModelled (mnemonic : String)
deriving DecidableEq, Repr

/-! ## One update per field -/

def State.setPins (s : State) (x : Pins) : State := { s with pins := x }
def State.setNodeAddress (s : State) (x : Byte) : State := { s with nodeAddress := x }
def State.setPorts (s : State) (x : Ports) : State := { s with ports := x }
def State.setCounters (s : State) (x : Counters) : State := { s with counters := x }
def State.setIntake (s : State) (x : Vector IntakeSlot 16) : State := { s with intake := x }
def State.setProfile (s : State) (x : LineProfile) : State := { s with profile := x }
def State.setOdo (s : State) (x : Odometry) : State := { s with odo := x }
def State.setSensor (s : State) (x : Sensor) : State := { s with sensor := x }
def State.setLine (s : State) (x : Line) : State := { s with line := x }
def State.setMarker (s : State) (x : MarkerUnit) : State := { s with marker := x }
def State.setRoute (s : State) (x : Route) : State := { s with route := x }
def State.setDemand (s : State) (x : Demand) : State := { s with demand := x }
def State.setCars (s : State) (x : Cars) : State := { s with cars := x }
def State.setCapture (s : State) (x : Capture) : State := { s with capture := x }
def State.setExecutor (s : State) (x : Executor) : State := { s with executor := x }
def State.setBook (s : State) (x : Book) : State := { s with book := x }
def State.setPending (s : State) (x : List Instr) : State := { s with pending := x }

/-! ## Cold reset values -/

/-- R15: transmitters idle, queues empty, nothing waiting, no reservation, sequences 0. -/
def Ports.reset : Ports :=
  { aftTx := none, foreTx := none, aftSeq := 0, foreSeq := 0, aftQueue := [], foreQueue := [],
    waiting := none, reservation := false }

/-- R174: a cold reset sets every counter to 0. -/
def Counters.reset : Counters :=
  { foreCheck := 0, aftCheck := 0, seqGaps := 0, aftDrops := 0, foreDrops := 0, reportDrops := 0,
    requestDrops := 0, commandSkips := 0, capturesMissed := 0 }

/-- R4: every entry empty, every sequence memory absent. -/
def intakeReset : Vector IntakeSlot 16 := Vector.replicate 16 ⟨none, none⟩

/-- The cold-reset column of section 9.6. -/
def LineProfile.reset : LineProfile :=
  { lineLength := 4096, commandPeriod := 10, vOn := 78, hysteresis := 8, threshold := 200,
    heldLimit := 8, attentionTimeout := 400, holdCount := 5, failCount := 20, trackingLimit := 150,
    trackingCount := 10, captureLength := 512, reportDestination := 255 }

/-- R34. The last distance is "no reference"; the state UNSET says so, and the value 0 stands there
unread (notes/assumptions/7.md). -/
def Odometry.reset : Odometry :=
  { state := .unset, lastDistance := 0, remainder := 0, debt := 0, speed := 0, timeout := none,
    uncertain := false, recovery := 0 }

/-- R52: a channel that is ABSENT, with no sample and its timeout stopped. -/
def ChannelRecord.reset : ChannelRecord :=
  { state := .absent, settle := 0, latest := none, paired := false, timeout := none }

/-- R52. -/
def Sensor.reset : Sensor :=
  { chP := .reset, chQ := .reset, pairState := .none, window := [], disagreeRun := 0,
    agreeRun := 0 }

/-- R67: no record readable, every slot holding a record that reads VOID. -/
def Line.reset : Line :=
  { inputCell := 0, clearMark := 0, acc := .empty, heldRun := 0, store := [] }

/-- R78: a regime's row, every entry leading to its own regime at LIMITED. -/
def regimeRowReset (r : Regime) : Vector RegimeEntry 16 :=
  Vector.replicate 16 ⟨r, .limited, false, false⟩

/-- R80: regime 0, LIMITED, waiting none. -/
def CarRegime.reset : CarRegime := ⟨0, .limited, none⟩

/-- R92. -/
def MarkerUnit.reset : MarkerUnit :=
  { queue := [], serialCounter := 1, loss := false,
    table := #v[regimeRowReset 0, regimeRowReset 1, regimeRowReset 2, regimeRowReset 3,
      regimeRowReset 4, regimeRowReset 5, regimeRowReset 6, regimeRowReset 7],
    cars := Vector.replicate 12 .reset, attention := none, lastTimedOut := none }

/-- R94: FREE, header absent, start cell none, no point. -/
def BankRecord.reset : BankRecord :=
  { state := .free, header := none, startCell := none, points := [] }

/-- The cold-reset column of section 7.2. -/
def CarProfile.reset : CarProfile :=
  { enabled := false, tapOffset := 0, preview := 0, gain := 0, fullLimit := 0, limitedLimit := 0,
    rateStep := 4, weight := 0 }

/-- R129: timer started at 10 ms, gate closed, profiles at reset, computations absent. -/
def Demand.reset : Demand :=
  { timer := some 10, gateOpen := false, profiles := Vector.replicate 12 .reset,
    last := Vector.replicate 12 none }

/-- R147: OFF, θ_prev 0, status fields none, age and run 0, not held. -/
def CarChannel.reset : CarChannel :=
  { state := .off, thetaPrev := 0, lastState := none, lastActual := none, lastEcho := none,
    age := 0, run := 0, parkHeld := false }

/-- R147, R141: every car OFF, the identity map, command sequence 0, every unit handed PARK. -/
def Cars.reset : Cars :=
  { channels := Vector.replicate 12 .reset,
    order := #v[0, 1, 2, 3, 4, 5, 6, 7, 8, 9, 10, 11],
    commandSeq := 0, lastHanded := Vector.replicate 12 .parked }

/-- R160: IDLE, every other field zero, car and serial none. -/
def Capture.reset : Capture :=
  { state := .idle, mode := .relative, source := .request, car := none, serial := none,
    start := 0, stop := 0, cursor := 0 }

/-- R148, R170: SAFE, no request waiting. -/
def Executor.reset : Executor := { opState := .safe, queue := [] }

/-- The part right after the release of the cold-reset pin (R159), its straps all 0 and so its node
address 0 (notes/assumptions/5.md), and no command waiting. -/
def State.reset : State :=
  { pins := ⟨false, 0⟩, nodeAddress := 0, ports := .reset, counters := .reset,
    intake := intakeReset, profile := .reset, odo := .reset, sensor := .reset, line := .reset,
    marker := .reset, route := ⟨.reset, .reset⟩, demand := .reset, cars := .reset,
    capture := .reset, executor := .reset, book := ⟨0, []⟩, pending := [] }

end Sys2Proof.Machine
end

