-- ==== Sys2Proof/Machine/Operands.lean ====
section
/-! DEFINITION. Reading and writing fields (R177): every multi-byte field most significant byte
first, signed fields in two's complement; and the codes of the enumerated fields (section 12.5),
with the readers that answer `none` on an undefined value (R178). -/

namespace Sys2Proof.Machine

/-! ## Bytes -/

/-- `n` as `w` bytes, most significant first. -/
def be : Nat → Nat → List Byte
  | 0, _ => []
  | w + 1, n => BitVec.ofNat 8 (n / 256 ^ w) :: be w n

/-- `i` as a two's-complement field of `w` bytes. -/
def beInt (w : Nat) (i : Int) : List Byte := be w (i % ((256 ^ w : Nat) : Int)).toNat

/-- The unsigned number that bytes spell, most significant first. -/
def readBytes (bs : List Byte) : Nat := bs.foldl (fun acc b => acc * 256 + b.toNat) 0

/-- The unsigned field of `w` bytes at offset `off`. -/
def field (p : List Byte) (off w : Nat) : Nat := readBytes ((p.drop off).take w)

/-- A number of `w` bytes read in two's complement. -/
def signedOf (w n : Nat) : Int :=
  if n < 256 ^ w / 2 then (n : Int) else (n : Int) - ((256 ^ w : Nat) : Int)

/-- The signed field of `w` bytes at offset `off`. -/
def fieldS (p : List Byte) (off w : Nat) : Int := signedOf w (field p off w)

/-- The one byte at offset `off`. -/
def byteAt (p : List Byte) (off : Nat) : Byte := BitVec.ofNat 8 (field p off 1)

/-! ## Codes (section 12.5, and in the order of the listing rule where it gives none) -/

/-- 0 no, 1 yes. -/
def boolCode (b : Bool) : Nat := if b then 1 else 0

def CmdMode.code : CmdMode → Nat
  | .park => 0 | .tilt => 1 | .hold => 2

def Role.code : Role → Nat
  | .sensorP => 0 | .sensorQ => 1 | .odometry => 2 | .markerReader => 3 | .unitStatus => 4
  | .manager => 5

def OdoState.code : OdoState → Nat
  | .unset => 0 | .tracking => 1 | .lost => 2

def ChannelState.code : ChannelState → Nat
  | .absent => 0 | .settling => 1 | .good => 2

def channelCode : Channel → Nat
  | .p => 0 | .q => 1

def PairState.code : PairState → Nat
  | .none => 0 | .singleP => 1 | .singleQ => 2 | .dual => 3 | .disagree => 4

def Quality.code : Quality → Nat
  | .dual => 0 | .single => 1 | .held => 2 | .void => 3

def Authority.code : Authority → Nat
  | .none => 0 | .limited => 1 | .full => 2

def Bank.code : Bank → Nat
  | .a => 0 | .b => 1

def MarkerKind.code : MarkerKind → Nat
  | .track => 0 | .sectionEnd => 1

def BankState.code : BankState → Nat
  | .free => 0 | .loading => 1 | .ready => 2 | .inUse => 3 | .draining => 4

def ChanState.code : ChanState → Nat
  | .off => 0 | .parked => 1 | .following => 2 | .centring => 3 | .hold => 4 | .failed => 5

/-- 3 stands for none (section 12.5). -/
def unitStateCode : Option UnitState → Nat
  | some .ready => 0 | some .busy => 1 | some .fault => 2 | none => 3

def CapState.code : CapState → Nat
  | .idle => 0 | .ready => 1 | .done => 2 | .overtaken => 3

def CapMode.code : CapMode → Nat
  | .relative => 0 | .absolute => 1

def CapSource.code : CapSource → Nat
  | .request => 0 | .regime => 1

def OpState.code : OpState → Nat
  | .safe => 0 | .standby => 1 | .active => 2

/-- A position or car of none is sent as 255 (R177). -/
def carCode : Option Car → Nat
  | some c => c.val | none => 255

/-- A serial of none is sent as 0 (R177). -/
def serialCode : Option Nat → Nat
  | some n => n | none => 0

/-! ## Reading codes: `none` where the value is undefined (R178) -/

def readBool : Nat → Option Bool
  | 0 => some false | 1 => some true | _ => none

def readAuthority : Nat → Option Authority
  | 0 => some .none | 1 => some .limited | 2 => some .full | _ => none

def readBankCode : Nat → Option Bank
  | 0 => some .a | 1 => some .b | _ => none

def readRole : Nat → Option Role
  | 0 => some .sensorP | 1 => some .sensorQ | 2 => some .odometry | 3 => some .markerReader
  | 4 => some .unitStatus | 5 => some .manager | _ => none

def readOpState : Nat → Option OpState
  | 0 => some .safe | 1 => some .standby | 2 => some .active | _ => none

def readCapMode : Nat → Option CapMode
  | 0 => some .relative | 1 => some .absolute | _ => none

def readUnitState : Nat → Option UnitState
  | 0 => some .ready | 1 => some .busy | 2 => some .fault | _ => none

/-- A number below `n`, or `none`: positions, unit ids, regimes and classes. -/
def readFin (n x : Nat) : Option (Fin n) := if h : x < n then some ⟨x, h⟩ else none

end Sys2Proof.Machine
end

