-- ==== Sys2Proof/Machine/Flags.lean ====
section
/-! DEFINITION. The conditions of the part and how they are read: the order of authorities, the
speed gate (R116), the set of enabled cars, the cells that taps and reports read. -/

namespace Sys2Proof.Machine

/-- To cap an authority by another is to take the lesser of the two (NONE < LIMITED < FULL). -/
def Authority.cap (x y : Authority) : Authority := if x.code ≤ y.code then x else y

/-- R116: at or above V_on opens, below V_on less the hysteresis closes, between leaves as it was. -/
def gateNext (vOn hysteresis speed : Nat) (gate : Bool) : Bool :=
  if vOn ≤ speed then true else if speed + hysteresis < vOn then false else gate

/-- The car profile of a position. -/
def State.carProfile (s : State) (c : Car) : CarProfile := s.demand.profiles[c]

/-- The channel record of a position. -/
def State.channel (s : State) (c : Car) : CarChannel := s.cars.channels[c]

/-- The regime record of a position. -/
def State.regime (s : State) (c : Car) : CarRegime := s.marker.cars[c]

/-- The unit that the car order map gives a position (R141). -/
def State.unitOf (s : State) (c : Car) : UnitId := s.cars.order[c]

/-- A position is enabled when its car profile is (R130). -/
def State.enabled (s : State) (c : Car) : Bool := (s.carProfile c).enabled

/-- Every enabled position, in rising order. -/
def State.enabledCars (s : State) : List Car := allCars.filter s.enabled

/-- R53: the input cell number less one, signed. -/
def Line.newest (l : Line) : Int := (l.inputCell : Int) - 1

/-- R63: the tap cell of a car. -/
def State.tapCell (s : State) (c : Car) : Int := s.line.newest - ((s.carProfile c).tapOffset : Int)

/-- The bank record of a bank. -/
def Route.bank (r : Route) : Bank → BankRecord
  | .a => r.a
  | .b => r.b

/-- The route store with one bank record replaced. -/
def Route.setBank (r : Route) (which : Bank) (x : BankRecord) : Route :=
  match which with
  | .a => { r with a := x }
  | .b => { r with b := x }

/-- The other bank. -/
def Bank.other : Bank → Bank
  | .a => .b
  | .b => .a

/-- R93: the end cell of a bank, its start cell plus its length. Nothing reads the end cell of a
bank whose start cell is none; it is then taken from 0. -/
def BankRecord.startNat (r : BankRecord) : Nat := r.startCell.getD 0

/-- The length of the bank's section; 0 where no header is present. -/
def BankRecord.length (r : BankRecord) : Nat :=
  match r.header with
  | some h => h.length
  | none => 0

/-- R93: start cell plus length, as an unbounded number. The manual compares cell numbers in the
width of R53 and does not say what an end cell past the largest cell number is; that such an end
cell stands above every cell, so that the section never ends, is the model's own choice, DESIGN
CHOICE (notes/assumptions/21.md). -/
def BankRecord.endCell (r : BankRecord) : Nat := r.startNat + r.length

/-- The section id of the bank's header; 0 where no header is present. -/
def BankRecord.sectionId (r : BankRecord) : Nat :=
  match r.header with
  | some h => h.sectionId
  | none => 0

/-- R101, R110: the bank takes part in lookups. -/
def BankState.inSection : BankState → Bool
  | .inUse => true
  | .draining => true
  | _ => false

/-- R150: the channel states of a car that may be moving. -/
def ChanState.moving : ChanState → Bool
  | .following => true
  | .centring => true
  | .hold => true
  | _ => false

end Sys2Proof.Machine
end

