-- ==== Sys2Proof/Machine/Reports.lean ====
section
/-! DEFINITION. The ten kinds of report (R176), each with the fields its owning rule lists, and
their payloads (section 12.4). A field that is absent for an event is sent as 0, an absent
position or car as 255 (R177). -/

namespace Sys2Proof.Machine

/-- The cause of a STATE report (R156). -/
inductive StateCause where
  | request
  | warmRestart
deriving DecidableEq, Repr

/-- The cause of a SENSOR report (R51). -/
inductive SensorCause where
  | channelGood
  | channelFault
  | channelTimeout
  | agree
  | disagree
deriving DecidableEq, Repr

/-- The event of an ODOMETRY report (R31). -/
inductive OdoEvent where
  | lost
  | restored
  | jump
  | uncertain
  | certain
deriving DecidableEq, Repr

/-- The cause of a JUMP (R31). -/
inductive JumpCause where
  | backward
  | forward
deriving DecidableEq, Repr

/-- The reason of a MARKER report (R77). -/
inductive MarkerReason where
  | order
  | full
  | stale
  | noPosition
deriving DecidableEq, Repr

/-- The reason of an ATTENTION_END report (section 12.5). -/
inductive EndReason where
  | timeout
  | withdrawn
deriving DecidableEq, Repr

/-- The event of a ROUTE report (R112). -/
inductive RouteEvent where
  | started
  | ended
  | unknownAhead
  | freed
deriving DecidableEq, Repr

/-- The cause of a STARTED or FREED event (R112). -/
inductive RouteCause where
  | chain
  | anchor
  | passed
  | lineClear
deriving DecidableEq, Repr

/-- The cause of a CAR report (R137). -/
inductive CarCause where
  | unitFault
  | unitBusy
  | unitReady
  | tracking
  | ageHold
  | ageFail
  | centred
  | parkSent
deriving DecidableEq, Repr

/-- The event of a CAPTURE report (R168). -/
inductive CaptureEvent where
  | triggered
  | missed
  | overtaken
  | cleared
deriving DecidableEq, Repr

def StateCause.code : StateCause → Nat
  | .request => 0 | .warmRestart => 1

def SensorCause.code : SensorCause → Nat
  | .channelGood => 0 | .channelFault => 1 | .channelTimeout => 2 | .agree => 3 | .disagree => 4

def OdoEvent.code : OdoEvent → Nat
  | .lost => 0 | .restored => 1 | .jump => 2 | .uncertain => 3 | .certain => 4

def JumpCause.code : JumpCause → Nat
  | .backward => 0 | .forward => 1

def MarkerReason.code : MarkerReason → Nat
  | .order => 0 | .full => 1 | .stale => 2 | .noPosition => 3

def EndReason.code : EndReason → Nat
  | .timeout => 0 | .withdrawn => 1

def RouteEvent.code : RouteEvent → Nat
  | .started => 0 | .ended => 1 | .unknownAhead => 2 | .freed => 3

def RouteCause.code : RouteCause → Nat
  | .chain => 0 | .anchor => 1 | .passed => 2 | .lineClear => 3

def CarCause.code : CarCause → Nat
  | .unitFault => 0 | .unitBusy => 1 | .unitReady => 2 | .tracking => 3 | .ageHold => 4
  | .ageFail => 5 | .centred => 6 | .parkSent => 7

def CaptureEvent.code : CaptureEvent → Nat
  | .triggered => 0 | .missed => 1 | .overtaken => 2 | .cleared => 3

/-- A report as a block offers it (R175). -/
inductive Report where
  /-- R156. -/
  | state (before after : OpState) (cause : StateCause) (channels : List ChanState)
  /-- R151, R156: target, item, position or none, detail. -/
  | safeCheck (target : OpState) (item : Nat) (position : Option Car) (detail : Nat)
  /-- R51; `channel` for the channel causes, `windowSum` for AGREE and DISAGREE. -/
  | sensor (before after : PairState) (cause : SensorCause) (channel : Option Channel)
      (p q : ChannelState) (windowSum : Nat)
  /-- R31; `jump` for JUMP. -/
  | odometry (event : OdoEvent) (state : OdoState) (inputCell : Nat)
      (jump : Option (JumpCause × Int))
  /-- R77; `cell` for ORDER and FULL, `tail` for ORDER. -/
  | marker (reason : MarkerReason) (cls : MarkerClass) (param : Byte) (stamp : Distance)
      (cell tail : Option Int) (loss : Bool) (count : Nat)
  /-- R84. -/
  | attention (hold : Attention)
  /-- R87, R89, R90. -/
  | attentionEnd (reason : EndReason) (serial : Nat) (car : Car) (regime : Regime)
      (authority : Authority)
  /-- R112; `anchor` for STARTED with cause ANCHOR. -/
  | route (event : RouteEvent) (bank : Bank) (sectionId startCell endCell : Nat)
      (cause : Option RouteCause) (anchor : Option (MarkerClass × Byte)) (a b : BankState)
      (newest : Int)
  /-- R137. -/
  | car (position : Car) (unit : UnitId) (before after : ChanState) (cause : CarCause) (age : Nat)
      (lastState : Option UnitState) (lastActual : Option Int) (theta : Int)
  /-- R168; `concerned` is the capture concerned, absent for MISSED; `before` for CLEARED. -/
  | capture (event : CaptureEvent) (source : CapSource) (car : Option Car) (serial : Option Nat)
      (concerned : Option Capture) (before : Option CapState) (newest : Int) (missed : Nat)
deriving DecidableEq, Repr

/-- The code of a field that is present only for some events: 0 where it is absent (R177). -/
def orZero {α : Type} (f : α → Nat) : Option α → Nat
  | some x => f x
  | none => 0

/-- The four fields of a regime table entry (section 12.3, 12.4). -/
def RegimeEntry.bytes (e : RegimeEntry) : List Byte :=
  be 1 e.next.val ++ be 1 e.authority.code ++ be 1 (boolCode e.attention) ++
    be 1 (boolCode e.capture)

/-- Section 12.4: the report kind, then the fields of that kind. A last actual angle of none in a CAR
report, for which section 12.4 and R177 give no value, is sent as 0: the model's own choice, DEDUCED
from the Read Car reply of section 12.2 (notes/assumptions/24.md). -/
def Report.payload : Report → List Byte
  | .state before after cause channels =>
    be 1 1 ++ be 1 before.code ++ be 1 after.code ++ be 1 cause.code ++
      channels.flatMap (fun x => be 1 x.code)
  | .safeCheck target item position detail =>
    be 1 2 ++ be 1 target.code ++ be 1 item ++ be 1 (carCode position) ++ be 2 detail
  | .sensor before after cause channel p q windowSum =>
    be 1 3 ++ be 1 before.code ++ be 1 after.code ++ be 1 cause.code ++
      be 1 (orZero channelCode channel) ++ be 1 p.code ++ be 1 q.code ++ be 2 windowSum
  | .odometry event st inputCell jump =>
    be 1 4 ++ be 1 event.code ++ be 1 st.code ++ be 6 inputCell ++
      (match jump with
        | some (cause, delta) => be 1 cause.code ++ beInt 4 delta
        | none => be 1 0 ++ be 4 0)
  | .marker reason cls param stamp cell tail loss count =>
    be 1 5 ++ be 1 reason.code ++ be 1 cls.val ++ [param] ++ be 4 stamp.toNat ++
      beInt 6 (cell.getD 0) ++ beInt 6 (tail.getD 0) ++ be 1 (boolCode loss) ++ be 1 count
  | .attention hold =>
    be 1 6 ++ be 2 hold.serial ++ be 1 hold.car.val ++ be 1 hold.cls.val ++ [hold.param] ++
      be 1 hold.regimeBefore.val ++ hold.copy.bytes ++ be 2 hold.timer
  | .attentionEnd reason serial c regime authority =>
    be 1 7 ++ be 1 reason.code ++ be 2 serial ++ be 1 c.val ++ be 1 regime.val ++
      be 1 authority.code
  | .route event bank sectionId startCell endCell cause anchor a b newest =>
    be 1 8 ++ be 1 event.code ++ be 1 bank.code ++ be 2 sectionId ++ be 6 startCell ++
      be 6 endCell ++ be 1 (orZero RouteCause.code cause) ++
      be 1 (orZero (fun x => x.1.val) anchor) ++ be 1 (orZero (fun x => x.2.toNat) anchor) ++
      be 1 a.code ++ be 1 b.code ++ beInt 6 newest
  | .car position unit before after cause age lastState lastActual theta =>
    be 1 9 ++ be 1 position.val ++ be 1 unit.val ++ be 1 before.code ++ be 1 after.code ++
      be 1 cause.code ++ be 1 age ++ be 1 (unitStateCode lastState) ++
      beInt 2 (lastActual.getD 0) ++ beInt 2 theta
  | .capture event source c serial concerned before newest missed =>
    be 1 10 ++ be 1 event.code ++ be 1 source.code ++ be 1 (carCode c) ++
      be 2 (serialCode serial) ++
      (match concerned with
        | some x => be 1 x.mode.code ++ beInt 6 x.start ++ beInt 6 x.stop ++ beInt 6 x.cursor
        | none => be 1 0 ++ be 6 0 ++ be 6 0 ++ be 6 0) ++
      be 1 (orZero CapState.code before) ++ beInt 6 newest ++ be 2 missed

end Sys2Proof.Machine
end

