-- ==== Sys2Proof/Machine/Ops.lean ====
section
/-! DEFINITION. The shared operations: building and sending frames, the two forwarding queues, the
aft output arbiter, offering a report, placing a reply, and the updates of one car's records. -/

namespace Sys2Proof.Machine

/-! ## Frame classes (section 1.2) -/

def clsSensor : Byte := 0x10
def clsOdometry : Byte := 0x11
def clsMarker : Byte := 0x12
def clsCommand : Byte := 0x20
def clsUnitStatus : Byte := 0x21
def clsRequest : Byte := 0x30
def clsReply : Byte := 0x31
def clsReport : Byte := 0x32

/-! ## Frames -/

/-- The six header bytes and the payload bytes, in the order they are sent (section 12.1). -/
def Frame.covered (f : Frame) : List Byte :=
  [f.dest, f.source, f.cls, f.seq, BitVec.ofNat 8 f.payload.length, f.flags] ++ f.payload

/-- The frame as it stands on the lane, after its start delimiter. -/
def Frame.bytes (f : Frame) : List Byte := f.covered ++ be 2 f.check.toNat

/-- R2, R3: a frame the part generates: source the node address, flag bit 0 set and the others
clear, and the check of the part's own transmitter. -/
def madeFrame (node dest cls seq : Byte) (payload : List Byte) : Frame :=
  let f : Frame := { dest := dest, source := node, cls := cls, seq := seq, flags := 1,
                     payload := payload, check := 0 }
  { f with check := frameCheck f.covered }

/-- The payload of a COMMAND frame (section 12.1): the command sequence and the twelve entries in
order of unit id. -/
def CommandFrame.payload (w : CommandFrame) : List Byte :=
  be 2 w.commandSeq.toNat ++
    w.entries.toList.flatMap (fun e => be 1 e.mode.code ++ beInt 2 e.angle)

/-- R143: the COMMAND frame as it is sent, to destination 255. -/
def CommandFrame.frame (node : Byte) (w : CommandFrame) : Frame :=
  madeFrame node 255 clsCommand w.seq w.payload

/-! ## The transmitters -/

/-- R13: when the fore transmitter is free and the queue holds a frame, it begins the head frame,
which leaves the queue. -/
def Ports.foreKick (p : Ports) : Ports :=
  match p.foreTx, p.foreQueue with
  | none, f :: rest => { p with foreTx := some f, foreQueue := rest }
  | _, _ => p

/-- R11: when the aft transmitter is free, the waiting COMMAND frame begins, else the head of the
aft-bound queue. -/
def Ports.aftKick (node : Byte) (p : Ports) : Ports :=
  match p.aftTx, p.waiting, p.aftQueue with
  | none, some w, _ => { p with aftTx := some (w.frame node), waiting := none }
  | none, none, f :: rest => { p with aftTx := some f, aftQueue := rest }
  | _, _, _ => p

/-- R12: 16, less the frames held, less one while a reply reservation is held. -/
def Ports.foreFree (p : Ports) : Nat :=
  16 - p.foreQueue.length - (if p.reservation then 1 else 0)

/-- A frame joins the tail of the fore-bound queue, and begins at once at a free transmitter. -/
def Ports.foreAdmit (p : Ports) (f : Frame) : Ports :=
  Ports.foreKick { p with foreQueue := p.foreQueue ++ [f] }

/-- A frame joins the tail of the aft-bound queue, and begins at once at a free transmitter. -/
def Ports.aftAdmit (node : Byte) (p : Ports) (f : Frame) : Ports :=
  Ports.aftKick node { p with aftQueue := p.aftQueue ++ [f] }

/-! ## Forwarding -/

/-- R10: admitted if the aft-bound queue holds fewer than 8 frames, else dropped and counted. -/
def offerAft (f : Frame) (s : State) : State :=
  if s.ports.aftQueue.length < 8 then s.setPorts (s.ports.aftAdmit s.nodeAddress f)
  else s.setCounters { s.counters with aftDrops := bump s.counters.aftDrops }

/-- R12: a forwarded frame is admitted with at least 3 free places, else dropped and counted. -/
def offerFore (f : Frame) (s : State) : State :=
  if 3 ≤ s.ports.foreFree then s.setPorts (s.ports.foreAdmit f)
  else s.setCounters { s.counters with foreDrops := bump s.counters.foreDrops }

/-- R6: a frame received at the fore port travels aft, one received at the aft port fore. -/
def forward (port : Port) (f : Frame) (s : State) : State :=
  match port with
  | .fore => offerAft f s
  | .aft => offerFore f s

/-! ## Reports and replies -/

/-- R175: the REPORT frame, addressed to the report destination, with the present fore transmit
sequence. -/
def reportFrame (r : Report) (s : State) : Frame :=
  madeFrame s.nodeAddress s.profile.reportDestination clsReport s.ports.foreSeq r.payload

/-- R12, R175: a report is admitted with at least one free place, and takes the next sequence
number; else it is dropped, takes none, and is counted. -/
def offerReport (r : Report) (s : State) : State :=
  if 1 ≤ s.ports.foreFree then
    s.setPorts { s.ports.foreAdmit (reportFrame r s) with foreSeq := s.ports.foreSeq + 1 }
  else s.setCounters { s.counters with reportDrops := bump s.counters.reportDrops }

/-- The reply codes (R169). -/
inductive ReplyCode where
  | ok
  | wrongState
  | notParked
  | busy
  | range
  | format
  | denied
  | checkFailed
  | safeCheck
  | tooLate
  | nothingPending
  | overtaken
  | unknown
deriving DecidableEq, Repr

/-- Section 12.5. -/
def ReplyCode.code : ReplyCode → Nat
  | .ok => 0 | .wrongState => 1 | .notParked => 2 | .busy => 3 | .range => 4 | .format => 5
  | .denied => 6 | .checkFailed => 7 | .safeCheck => 8 | .tooLate => 9 | .nothingPending => 10
  | .overtaken => 11 | .unknown => 12

/-- A reply: its code and its reply payload. -/
structure Reply where
  code : ReplyCode
  payload : List Byte
deriving DecidableEq, Repr

/-- A reply with an empty reply payload. -/
def Reply.bare (c : ReplyCode) : Reply := ⟨c, []⟩

/-- R169: request code and tag echoed (0 for each byte that was not present), reply code, reply
payload. -/
def replyPayload (r : Request) (a : Reply) : List Byte :=
  (r.envelope ++ [0, 0, 0]).take 3 ++ be 1 a.code.code ++ a.payload

/-- R169: the MGMT_REPLY frame, to the source of the request. -/
def replyFrame (r : Request) (a : Reply) (s : State) : Frame :=
  madeFrame s.nodeAddress r.source clsReply s.ports.foreSeq (replyPayload r a)

/-- R12, R171: the reply takes the reserved place, which releases the reservation, and takes the
next sequence number. -/
def placeReply (r : Request) (a : Reply) (s : State) : State :=
  s.setPorts { Ports.foreAdmit { s.ports with reservation := false } (replyFrame r a s) with
    foreSeq := s.ports.foreSeq + 1 }

/-! ## One car's records -/

/-- A position's channel record replaced. -/
def setChannel (c : Car) (x : CarChannel) (s : State) : State :=
  s.setCars { s.cars with channels := s.cars.channels.set c x }

/-- A position's regime record replaced. -/
def setRegime (c : Car) (x : CarRegime) (s : State) : State :=
  s.setMarker { s.marker with cars := s.marker.cars.set c x }

/-- R145: while a COMMAND frame waits at the arbiter, the entry of unit `u` in it is rewritten to
PARK with angle 0, and the unit's last handed entry becomes PARK with angle 0. -/
def parkWaiting (u : UnitId) (s : State) : State :=
  match s.ports.waiting with
  | none => s
  | some w =>
    (s.setPorts { s.ports with waiting := some { w with entries := w.entries.set u .parked } }).setCars
      { s.cars with lastHanded := s.cars.lastHanded.set u .parked }

/-- R145, R150: while a COMMAND frame waits, every entry of it is rewritten to PARK with angle 0,
and every unit's last handed entry becomes PARK with angle 0. -/
def parkAllWaiting (s : State) : State :=
  match s.ports.waiting with
  | none => s
  | some w =>
    (s.setPorts { s.ports with
      waiting := some { w with entries := Vector.replicate 12 .parked } }).setCars
      { s.cars with lastHanded := Vector.replicate 12 .parked }

/-- R115, R145: a car enters PARKED, OFF or FAILED: θ_prev becomes 0, it is no longer held, its
unit's entry in a waiting COMMAND frame is rewritten, and on FAILED its tracking run becomes 0
(R133). -/
def enterStill (c : Car) (st : ChanState) (s : State) : State :=
  let x := s.channel c
  parkWaiting (s.unitOf c) (setChannel c
    { x with state := st, thetaPrev := 0, parkHeld := false,
             run := if st = .failed then 0 else x.run } s)

/-- R137: the CAR report of a change from `before` to the state the car holds now. -/
def carReport (c : Car) (before : ChanState) (cause : CarCause) (s : State) : State :=
  let x := s.channel c
  offerReport (.car c (s.unitOf c) before x.state cause x.age x.lastState x.lastActual x.thetaPrev) s

/-- One after another, in rising order of logical position. -/
def forCars (f : Car → State → State) (s : State) : State := allCars.foldl (fun t c => f c t) s

end Sys2Proof.Machine
end

