-- ==== Sys2Proof/Machine/CarSupervisor.lean ====
section
/-! DEFINITION. The car supervisor (Chapter 8): taking unit status, the status ages, building and
handing the COMMAND frame, and the changes of channel state that the operating state makes. -/

namespace Sys2Proof.Machine

/-! ## Unit status -/

/-- A car enters HOLD with its θ_prev (R133, R135), or CENTRING with it (R133, R154). -/
def enterKeeping (c : Car) (st : ChanState) (s : State) : State :=
  setChannel c { s.channel c with state := st } s

/-- A car enters FOLLOWING with its θ_prev, its tracking run 0, no longer held (R133, R153). -/
def enterFollowing (c : Car) (s : State) : State :=
  setChannel c { s.channel c with state := .following, run := 0, parkHeld := false } s

/-- R132 first: the age becomes 0 and the status fields take the values of the frame. -/
def recordStatus (c : Car) (u : UnitState) (actual : Int) (echo : Word16) (s : State) : State :=
  setChannel c { s.channel c with age := 0, lastState := some u, lastActual := some actual,
                                  lastEcho := some echo } s

/-- R134: the actual angle lies beyond the tracking limit of θ_prev. -/
def beyondLimit (actual theta : Int) (limit : Nat) : Bool := limit < (actual - theta).natAbs

/-- R134: the tracking test of a FOLLOWING car, with its CAR report where the run reaches the
count. -/
def trackingTest (c : Car) (actual : Int) (s : State) : State :=
  let x := s.channel c
  if beyondLimit actual x.thetaPrev s.profile.trackingLimit then
    if s.profile.trackingCount ≤ x.run + 1 then
      carReport c x.state .tracking (enterStill c .failed s)
    else setChannel c { x with run := x.run + 1 } s
  else setChannel c { x with run := 0 } s

/-- R133: the unit state of a taken status acts on the channel state. -/
def unitStateAct (c : Car) (u : UnitState) (s : State) : State :=
  let before := (s.channel c).state
  match u with
  | .ready =>
    if before = .hold then
      match s.executor.opState with
      | .active => carReport c before .unitReady (enterFollowing c s)
      | .standby => carReport c before .unitReady (enterKeeping c .centring s)
      | .safe => s
    else s
  | .busy =>
    if before = .following ∨ before = .centring then
      carReport c before .unitBusy (enterKeeping c .hold s)
    else s
  | .fault =>
    if before = .off ∨ before = .failed then s
    else carReport c before .unitFault (enterStill c .failed s)

/-- R132: a car takes a status. -/
def takeStatus (c : Car) (u : UnitState) (actual : Int) (echo : Word16) (s : State) : State :=
  let s1 := recordStatus c u actual echo s
  if (s1.channel c).state = .following then
    let s2 := trackingTest c actual s1
    if (s2.channel c).state = .failed then s2 else unitStateAct c u s2
  else unitStateAct c u s1

/-- R131: every enabled position mapped to the unit takes the status, in rising order. -/
def takeUnitStatus (unit : UnitId) (u : UnitState) (actual : Int) (echo : Word16) (s : State) :
    State :=
  forCars (fun c t =>
    if t.enabled c && t.unitOf c = unit then takeStatus c u actual echo t else t) s

/-- R131: the payload judged: ignored on a wrong length, an undefined unit state or a unit id above
11. -/
def handleUnitStatus (p : List Byte) (s : State) : State :=
  if p.length ≠ 6 then s
  else match readUnitState (field p 1 1), readFin 12 (field p 0 1) with
    | some u, some unit => takeUnitStatus unit u (fieldS p 2 2) (BitVec.ofNat 16 (field p 4 2)) s
    | _, _ => s

/-! ## Status age -/

/-- R135: the age increases by one and stays at 255. -/
def ageUp (n : Nat) : Nat := if n < 255 then n + 1 else n

/-- R135: a car whose channel state is not OFF ages. -/
def ageCar (c : Car) (s : State) : State :=
  let x := s.channel c
  if x.state = .off then s else setChannel c { x with age := ageUp x.age } s

/-- R135 steps 1 and 2 for one aged car: HOLD at the hold count, FAILED at the fail count, and one
CAR report of the whole change. -/
def ageTest (c : Car) (s : State) : State :=
  let x := s.channel c
  let tilting := x.state = .following ∨ x.state = .centring
  if tilting ∧ s.profile.holdCount ≤ x.age then
    if s.profile.failCount ≤ x.age then
      carReport c x.state .ageFail (enterStill c .failed s)
    else carReport c x.state .ageHold (enterKeeping c .hold s)
  else if x.state = .hold ∧ s.profile.failCount ≤ x.age then
    carReport c x.state .ageFail (enterStill c .failed s)
  else s

/-- R135: the ageing that closes every expiry of the command timer. -/
def ageAll (s : State) : State := forCars ageTest (forCars ageCar s)

/-! ## The COMMAND frame -/

/-- R144: the entry that a position's channel state gives its unit. -/
def channelEntry (x : CarChannel) : CmdEntry :=
  match x.state with
  | .following => ⟨.tilt, x.thetaPrev⟩
  | .centring => ⟨.tilt, x.thetaPrev⟩
  | .hold => ⟨.hold, x.thetaPrev⟩
  | .parked => .parked
  | .failed => .parked
  | .off => .parked

/-- The enabled position mapped to a unit (R144); the lowest, where the map is not one-to-one. -/
def State.positionOf (s : State) (u : UnitId) : Option Car :=
  allCars.find? (fun c => s.enabled c && s.unitOf c = u)

/-- R144: the entry for unit u. -/
def unitEntry (s : State) (u : UnitId) : CmdEntry :=
  match s.executor.opState with
  | .safe => .parked
  | _ =>
    match s.positionOf u with
    | some c => channelEntry (s.channel c)
    | none => .parked

/-- R3, R143, R145: the COMMAND frame is built and handed to the arbiter, where it begins at once at
a free transmitter; each unit's last handed entry is its entry in it. -/
def handFrame (s : State) : State :=
  let entries := tabulate (unitEntry s)
  let w : CommandFrame :=
    { seq := s.ports.aftSeq, commandSeq := s.cars.commandSeq, entries := entries }
  (s.setPorts (Ports.aftKick s.nodeAddress
    { s.ports with waiting := some w, aftSeq := s.ports.aftSeq + 1 })).setCars
    { s.cars with commandSeq := s.cars.commandSeq + 1, lastHanded := entries }

/-- R145: a PARKED car held for its unit's PARK entry, when that entry has been handed in ACTIVE. -/
def parkSent (c : Car) (s : State) : State :=
  let x := s.channel c
  if x.state = .parked ∧ x.parkHeld = true ∧ s.enabled c = true ∧ s.executor.opState = .active ∧
      s.cars.lastHanded[s.unitOf c].mode = .park then
    carReport c .parked .parkSent
      (setChannel c { x with state := .following, thetaPrev := 0, run := 0, parkHeld := false } s)
  else s

/-- R143, R145: the frame of a period that is not skipped, and the held cars it frees. Where one
frame frees several held cars, their PARK_SENT reports go in rising order of position: the manual
gives no order for them, and this one is the model's own choice, DESIGN CHOICE
(notes/assumptions/17.md). -/
def buildCommand (s : State) : State := forCars parkSent (handFrame s)

/-! ## Changes made by the operating state -/

/-- R150: a car that may be moving enters PARKED with θ_prev 0 and run 0; no car stays held. -/
def parkForSafe (c : Car) (s : State) : State :=
  let x := s.channel c
  if x.state.moving then
    setChannel c { x with state := .parked, thetaPrev := 0, run := 0, parkHeld := false } s
  else setChannel c { x with parkHeld := false } s

/-- R152, R153: on a change to ACTIVE a CENTRING car enters FOLLOWING with its θ_prev; a PARKED car
enters FOLLOWING from 0, or, where its unit's last handed entry is TILT or HOLD, is held. -/
def activateCar (c : Car) (s : State) : State :=
  let x := s.channel c
  if x.state = .centring then enterFollowing c s
  else if x.state = .parked then
    if s.cars.lastHanded[s.unitOf c].mode = .park then
      setChannel c { x with state := .following, thetaPrev := 0, run := 0, parkHeld := false } s
    else setChannel c { x with parkHeld := true } s
  else s

/-- R154: on a change to STANDBY a FOLLOWING car enters CENTRING with its θ_prev; no car stays
held. -/
def standbyCar (c : Car) (s : State) : State :=
  let x := s.channel c
  setChannel c { x with state := if x.state = .following then .centring else x.state,
                        parkHeld := false } s

/-- R147: on a warm restart an enabled car that was not FAILED becomes PARKED; θ_prev and run
become 0. -/
def restartCar (c : Car) (s : State) : State :=
  let x := s.channel c
  let st : ChanState := match x.state with
    | .off => .off
    | .failed => .failed
    | _ => .parked
  setChannel c { x with state := st, thetaPrev := 0, run := 0, parkHeld := false } s

end Sys2Proof.Machine
end

