-- ==== Sys2Proof/Machine/HistoryLine.lean ====
section
/-! DEFINITION. The curve history line (Chapter 4): the cell store, the open cell, closing cells on
an advance, tap reads, and the line clear as the line itself performs it. -/

namespace Sys2Proof.Machine

/-! ## The store -/

/-- The record a slot holds: the listed one, or the blank record. -/
def Store.read (st : Store) (slot : Nat) : CellRecord :=
  match st with
  | [] => CellRecord.blank
  | (k, r) :: rest => if k = slot then r else Store.read rest slot

/-- A record written into a slot, replacing what the slot held (R54). Slots stay strictly rising,
and a slot that comes to hold the blank record is not listed. -/
def Store.write (st : Store) (slot : Nat) (r : CellRecord) : Store :=
  match st with
  | [] => if r = CellRecord.blank then [] else [(slot, r)]
  | (k, x) :: rest =>
    if slot < k then
      (if r = CellRecord.blank then (k, x) :: rest else (slot, r) :: (k, x) :: rest)
    else if slot = k then
      (if r = CellRecord.blank then rest else (slot, r) :: rest)
    else (k, x) :: Store.write rest slot r

/-- The canonical form: slots strictly rising, no listed record blank. -/
abbrev Store.wf (st : Store) : Prop :=
  st.Pairwise (fun x y => x.1 < y.1) ∧ ∀ e ∈ st, e.2 ≠ CellRecord.blank

/-- R54: the slot of cell n is n modulo the line length. -/
def slotOf (len : Nat) (n : Int) : Nat := (n % (len : Int)).toNat

/-- A closed cell's record written into its slot. -/
def Line.put (l : Line) (len : Nat) (r : CellRecord) : Line :=
  { l with store := l.store.write (slotOf len r.cell) r }

/-! ## Reading -/

/-- R62: a cell is readable when it is at or above the clear mark, at or below the newest closed
cell, and greater than the newest closed cell less the line length. -/
def Line.readable (l : Line) (len : Nat) (n : Int) : Bool :=
  (l.clearMark : Int) ≤ n && n ≤ l.newest && l.newest - (len : Int) < n

/-- R62: a tap read: the record in the slot of a readable cell, else the VOID record of cell n. -/
def Line.tapRead (l : Line) (len : Nat) (n : Int) : CellRecord :=
  if l.readable len n then l.store.read (slotOf len n) else CellRecord.void n

/-- A tap read of the part's line at its line length. -/
def State.tapRead (s : State) (n : Int) : CellRecord := s.line.tapRead s.profile.lineLength n

/-! ## The open cell -/

/-- R56: a fused sample is added unless the count stands at 16,777,215. -/
def Accumulator.add (a : Accumulator) (value : Int) (q : SampleQuality) : Accumulator :=
  if a.count < 16777215 then
    { sum := a.sum + value, count := a.count + 1,
      worst := some (if q = .single ∨ a.worst = some .single then .single else .dual) }
  else a

/-- R50: a fused sample delivered to the open cell. -/
def deliverSample (value : Int) (q : SampleQuality) (s : State) : State :=
  s.setLine { s.line with acc := s.line.acc.add value q }

/-- The quality a cell with samples closes at: the accumulator's worst quality (R58). -/
def Accumulator.quality (a : Accumulator) : Quality :=
  match a.worst with
  | some .single => .single
  | _ => .dual

/-! ## Closing cells -/

/-- R58: the record of an open cell that gathered samples. -/
def closedWithSamples (cell : Int) (a : Accumulator) : CellRecord :=
  { cell := cell, value := nearest a.sum a.count, quality := a.quality, samples := min a.count 255 }

/-- A cell closed HELD with the value of the cell before it. -/
def heldRecord (cell : Int) (before : CellRecord) : CellRecord := ⟨cell, before.value, .held, 0⟩

/-- R59: the record of an open cell without samples, and the held-run count after it. -/
def closedEmpty (cell : Int) (before : CellRecord) (pair : PairState) (limit run : Nat) :
    CellRecord × Nat :=
  if pair = .disagree ∨ pair = .none then (CellRecord.void cell, run)
  else if before.quality = .void then (CellRecord.void cell, run)
  else if limit ≤ run then (CellRecord.void cell, run)
  else (heldRecord cell before, run + 1)

/-- R60: the record of a skipped cell above the record `below`, and the held-run count after it. -/
def closedSkipped (cell : Int) (below : CellRecord) (limit run : Nat) : CellRecord × Nat :=
  if below.quality = .void ∨ limit ≤ run then (CellRecord.void cell, run)
  else (heldRecord cell below, run + 1)

/-- R57 step 1: what the open cell closes as, and the held-run count after it. -/
def Line.openRecord (l : Line) (len limit : Nat) (pair : PairState) : CellRecord × Nat :=
  if 1 ≤ l.acc.count then (closedWithSamples l.inputCell l.acc, 0)
  else closedEmpty l.inputCell (l.tapRead len (l.inputCell - 1)) pair limit l.heldRun

/-- R57 step 2: `n` skipped cells from `cell` upward, the record just below them being `below`. -/
def Line.closeSkipped (len limit : Nat) : Nat → Int → CellRecord → Line → Line
  | 0, _, _, l => l
  | n + 1, cell, below, l =>
    let x := closedSkipped cell below limit l.heldRun
    Line.closeSkipped len limit n (cell + 1) x.1 { l.put len x.1 with heldRun := x.2 }

/-- R57 steps 1 to 3, for k cells. -/
def Line.advance (l : Line) (len limit : Nat) (pair : PairState) (k : Nat) : Line :=
  let x := l.openRecord len limit pair
  let l1 : Line := { l.put len x.1 with heldRun := x.2 }
  let l2 := Line.closeSkipped len limit (k - 1) (l.inputCell + 1) x.1 l1
  { l2 with inputCell := l.inputCell + k, acc := .empty }

/-- R57: an advance that would carry the input cell number past the largest cell number is cut
short. -/
def Line.cut (l : Line) (k : Nat) : Nat := min k (maxCell - l.inputCell)

/-- The line of the part advanced by k cells, k already cut short. -/
def advanceLine (k : Nat) (s : State) : State :=
  s.setLine (s.line.advance s.profile.lineLength s.profile.heldLimit s.sensor.pairState k)

/-! ## The line clear -/

/-- R65: clear mark to the input cell number, accumulator emptied, held-run count 0. -/
def Line.cleared (l : Line) : Line :=
  { l with clearMark := l.inputCell, acc := .empty, heldRun := 0 }

end Sys2Proof.Machine
end

