-- ==== Sys2Proof/Machine/RouteStore.lean ====
section
/-! DEFINITION. The route store (Chapter 6), but for the section end, which needs the marker queue
(Machine/RouteEnd.lean): the banks' states, their reports, freeing, and the lookup. -/

namespace Sys2Proof.Machine

/-- A bank record replaced. -/
def setBank (bank : Bank) (x : BankRecord) (s : State) : State :=
  s.setRoute (s.route.setBank bank x)

/-- A bank's state replaced. -/
def setBankState (bank : Bank) (st : BankState) (s : State) : State :=
  setBank bank { s.route.bank bank with state := st } s

/-- R112: the ROUTE report of a bank as it stands. -/
def routeReport (event : RouteEvent) (bank : Bank) (cause : Option RouteCause)
    (anchor : Option (MarkerClass × Byte)) (s : State) : Report :=
  let r := s.route.bank bank
  .route event bank r.sectionId r.startNat r.endCell cause anchor s.route.a.state s.route.b.state
    s.line.newest

/-- R112: a ROUTE report offered. -/
def offerRoute (event : RouteEvent) (bank : Bank) (cause : Option RouteCause)
    (anchor : Option (MarkerClass × Byte)) (s : State) : State :=
  offerReport (routeReport event bank cause anchor s) s

/-- R106: on the notice that its SECTION_END marker has left the queue, the bank becomes FREE. -/
def freePassed (bank : Bank) (s : State) : State :=
  offerRoute .freed bank (some .passed) none (setBankState bank .free s)

/-- R75, R105: the marker unit tells the route store that a bank's marker has left; while a section
end is under way the notice is kept until it is complete. -/
def tellRoute (underWay : Bool) (bank : Bank) (s : State) : State :=
  if underWay then s.setBook { s.book with notices := s.book.notices ++ [bank] }
  else freePassed bank s

/-- R105: the notices kept during a section end are taken, in their order. -/
def takeNotices (s : State) : State :=
  s.book.notices.foldl (fun t bank => freePassed bank t) (s.setBook { s.book with notices := [] })

/-- R108: a bank that is IN_USE or DRAINING becomes FREE. -/
def freeCleared (bank : Bank) (s : State) : State :=
  if (s.route.bank bank).state.inSection then
    offerRoute .freed bank (some .lineClear) none (setBankState bank .free s)
  else s

/-- R108: the answer to a line clear, bank A before bank B. Where both are freed, bank A's report is
formed before bank B becomes FREE, and so still shows bank B as IN_USE or DRAINING: the model's own
choice, DESIGN CHOICE (notes/assumptions/22.md). -/
def routeClear (s : State) : State := freeCleared .b (freeCleared .a s)

/-- The bank that is IN_USE, if one is (R101). -/
def Route.inUse (r : Route) : Option Bank :=
  if r.a.state = .inUse then some .a else if r.b.state = .inUse then some .b else none

/-! ## The lookup (section 6.6) -/

/-- R110: the bank IN_USE or DRAINING whose section contains cell x. -/
def BankRecord.contains (r : BankRecord) (x : Int) : Bool :=
  r.state.inSection && (r.startNat : Int) ≤ x && x < (r.endCell : Int)

/-- What a lookup gives when the route is known. -/
structure Looked where
  k : Int
  c : Int
  permit : Authority
deriving DecidableEq, Repr

/-- R111: between two points, the value moved from the first toward the second by the
nearest-rounded share d of the span. -/
def interpolate (x y : Int) (d span : Nat) : Int := x + nearest ((y - x) * d) span

/-- R110, R111: the last point whose offset is at or below o, and the values it gives. -/
def lookPoints : List Point → Nat → Option Looked
  | [], _ => none
  | [p], o => if p.offset ≤ o then some ⟨p.k, p.c, p.permit⟩ else none
  | p :: q :: rest, o =>
    if q.offset ≤ o then lookPoints (q :: rest) o
    else if p.offset ≤ o then
      some ⟨interpolate p.k q.k (o - p.offset) (q.offset - p.offset),
            interpolate p.c q.c (o - p.offset) (q.offset - p.offset), p.permit⟩
    else none

/-- R110: the lookup at cell x; `none` is "unknown". -/
def Route.lookup (r : Route) (x : Int) : Option Looked :=
  if r.a.contains x then lookPoints r.a.points (x - r.a.startNat).toNat
  else if r.b.contains x then lookPoints r.b.points (x - r.b.startNat).toNat
  else none

end Sys2Proof.Machine
end

