-- ==== Sys2Proof/Machine/DemandEngine.lean ====
section
/-! DEFINITION. The demand engine (Chapter 7): the eight steps of one car's computation, and the
expiry of the command timer. -/

namespace Sys2Proof.Machine

/-- R120: step 1. `a_m`, present unless the tap reads VOID. -/
def measured (r : CellRecord) : Option Int := if r.quality = .void then none else some r.value

/-- R121: the preview cell. -/
def previewCell (tap : Int) (preview : Nat) (newest : Int) : Int := min (tap + preview) newest

/-- R121: the feedforward of a known route at speed v. -/
def feedforward (v : Nat) (look : Looked) : Int :=
  bound (-2048) 2047 (nearest ((v : Int) * v * look.k) 1048576 - look.c)

/-- R122: step 3, the estimate from the values present. -/
def blend (w : Nat) (am af : Option Int) : Int :=
  match am, af with
  | some m, some f => nearest ((w : Int) * f + (256 - (w : Int)) * m) 256
  | some m, none => m
  | none, some f => f
  | none, none => 0

/-- R123: the cap of the tap record's quality. -/
def qualityCap (q : Quality) (routeKnown : Bool) : Authority :=
  match q with
  | .dual => .full
  | .single => .limited
  | .held => .limited
  | .void => if routeKnown then .limited else .none

/-- A cap that applies while a condition holds, and caps nothing otherwise. -/
def capIf (cond : Bool) (a : Authority) : Authority := if cond then a else .full

/-- R123: step 4, the effective authority. -/
def effectiveAuthority (s : State) (c : Car) (q : Quality) (look : Option Looked) : Authority :=
  let caps : List Authority :=
    [ qualityCap q look.isSome,
      (match look with
        | some l => l.permit
        | none => .full),
      capIf (!s.demand.gateOpen) .none,
      capIf (decide (s.odo.state ≠ .tracking)) .none,
      capIf s.odo.uncertain .limited,
      capIf s.marker.loss .limited,
      capIf (decide ((s.channel c).state = .centring)) .none,
      capIf (decide (s.executor.opState = .standby)) .none ]
  caps.foldl Authority.cap (s.regime c).authority

/-- R123: the angle limit of an authority. -/
def limitOf (p : CarProfile) : Authority → Nat
  | .full => p.fullLimit
  | .limited => p.limitedLimit
  | .none => 0

/-- R124: step 5, the raw angle. -/
def rawAngle (estimate : Int) (gain : Nat) : Int :=
  bound (-1000) 1000 (nearest (estimate * gain) 256)

/-- R125: step 6. -/
def clampAngle (raw : Int) (limit : Nat) : Int := bound (-(limit : Int)) limit raw

/-- R126: step 7. -/
def rateAngle (prev clamped : Int) (step : Nat) : Int :=
  prev + bound (-(step : Int)) step (clamped - prev)

/-- R120 to R126: what one car's computation gives, on the state as the event reads it (R119). -/
def computation (s : State) (c : Car) : Computation :=
  let p := s.carProfile c
  let record := s.tapRead (s.tapCell c)
  let look := s.route.lookup (previewCell (s.tapCell c) p.preview s.line.newest)
  let estimate := blend p.weight (measured record) (look.map (feedforward s.odo.speed))
  let authority := effectiveAuthority s c record.quality look
  let clamped := clampAngle (rawAngle estimate p.gain) (limitOf p authority)
  { quality := record.quality, routeKnown := look.isSome, estimate := estimate,
    authority := authority, clamped := clamped,
    angle := rateAngle (s.channel c).thetaPrev clamped p.rateStep }

/-- R127, R128: step 8. The new angle becomes θ_prev, the last computation is replaced, and a
CENTRING car whose new angle is 0 becomes PARKED, with its CAR report. -/
def storeComputation (c : Car) (r : Computation) (s : State) : State :=
  let s1 := s.setDemand { s.demand with last := s.demand.last.set c (some r) }
  let s2 := setChannel c { s1.channel c with thetaPrev := r.angle } s1
  if (s.channel c).state = .centring ∧ r.angle = 0 then
    carReport c .centring .centred (enterStill c .parked s2)
  else s2

/-- R118: a car in FOLLOWING or CENTRING is computed, any other is not. -/
def computeCar (c : Car) (s : State) : State :=
  match (s.channel c).state with
  | .following => storeComputation c (computation s c) s
  | .centring => storeComputation c (computation s c) s
  | _ => s

/-- R118, R119: a period that is not skipped: every car computed, then the frame built and handed. -/
def computePeriod (s : State) : State := buildCommand (forCars computeCar s)

/-- R118: a period that finds a COMMAND frame still waiting is skipped and counted. -/
def skipPeriod (s : State) : State :=
  s.setCounters { s.counters with commandSkips := bump s.counters.commandSkips }

/-- R117: the timer restarts at once with the command period in force. -/
def restartTimer (s : State) : State :=
  s.setDemand { s.demand with timer := some s.profile.commandPeriod }

/-- R117, R118, R135: the expiry of the command timer. -/
def commandExpiry (s : State) : State :=
  let t := restartTimer s
  ageAll (if t.ports.waiting.isSome then skipPeriod t else computePeriod t)

end Sys2Proof.Machine
end

