-- ==== Sys2Proof/Machine/CaptureUnit.lean ====
section
/-! DEFINITION. The capture unit (Chapter 10): beginning a capture, the regime trigger, the
overtaking test, and its answer to a line clear. -/

namespace Sys2Proof.Machine

/-- R168: a CAPTURE report of the capture record as it stands. -/
def offerCapture (event : CaptureEvent) (before : Option CapState) (s : State) : State :=
  let c := s.capture
  offerReport (.capture event c.source c.car c.serial (some c) before s.line.newest
    s.counters.capturesMissed) s

/-- R161, R162: a capture begins, READY, its read cursor at its start cell, with its TRIGGERED
report. -/
def beginCapture (mode : CapMode) (source : CapSource) (car : Option Car) (serial : Option Nat)
    (start stop : Int) (s : State) : State :=
  offerCapture .triggered none
    (s.setCapture { state := .ready, mode := mode, source := source, car := car, serial := serial,
                    start := start, stop := stop, cursor := start })

/-- R161, RELATIVE: the last n closed cells. -/
def beginRelative (source : CapSource) (car : Option Car) (serial : Option Nat) (n : Nat)
    (s : State) : State :=
  beginCapture .relative source car serial ((s.line.inputCell : Int) - n) s.line.inputCell s

/-- R161: a new capture is accepted in IDLE and DONE. -/
def CapState.accepts : CapState → Bool
  | .idle => true
  | .done => true
  | _ => false

/-- R162: a regime trigger made by car `c` applying the marker with this serial. -/
def regimeTrigger (c : Car) (serial : Nat) (s : State) : State :=
  if s.capture.state.accepts then
    beginRelative .regime (some c) (some serial) s.profile.captureLength s
  else
    let t := s.setCounters { s.counters with capturesMissed := bump s.counters.capturesMissed }
    offerReport (.capture .missed .regime (some c) (some serial) none none t.line.newest
      t.counters.capturesMissed) t

/-- R164: the record is READY and the newest closed cell less the line length, plus one, is greater
than the read cursor. -/
def State.overtakenNow (s : State) : Bool :=
  s.capture.state = .ready &&
    s.capture.cursor < s.line.newest - (s.profile.lineLength : Int) + 1

/-- R164: the overtaking test. -/
def overtakingTest (s : State) : State :=
  if s.overtakenNow then
    offerCapture .overtaken none (s.setCapture { s.capture with state := .overtaken })
  else s

/-- R166: the answer to a line clear: a record that is not IDLE becomes IDLE, with a CLEARED report
of the capture as it stood before. -/
def captureClear (s : State) : State :=
  if s.capture.state = .idle then s
  else offerCapture .cleared (some s.capture.state)
    (s.setCapture { s.capture with state := .idle })

end Sys2Proof.Machine
end

