-- ==== Sys2Proof/Machine/MarkerUnit.lean ====
section
/-! DEFINITION. The marker unit (Chapter 5): the queue, passes, entries applied, the attention record,
and the answer to a line clear. -/

namespace Sys2Proof.Machine

/-- R78: the entry of the regime table for a regime and a class. -/
def State.entry (s : State) (r : Regime) (cls : MarkerClass) : RegimeEntry := s.marker.table[r][cls]

/-- The marker queue replaced. -/
def setQueue (q : List Marker) (s : State) : State := s.setMarker { s.marker with queue := q }

/-- R75: the markers whose pending set is empty leave the queue, and the route store is told of
each SECTION_END marker among them. Where one disabling (R90) empties the markers of both DRAINING
banks, the manual gives no order for the two; from head to tail of the queue is the model's own
choice, DESIGN CHOICE (notes/assumptions/23.md). -/
def dropEmptied (underWay : Bool) (s : State) : State :=
  let gone := s.marker.queue.filter (fun m => m.pending.isEmpty)
  let t := setQueue (s.marker.queue.filter (fun m => !m.pending.isEmpty)) s
  gone.foldl (fun t m => match m.bank with
    | some bank => tellRoute underWay bank t
    | none => t) t

/-- A car removed from the pending set of the marker with a serial. -/
def Marker.without (c : Car) (serial : Nat) (m : Marker) : Marker :=
  if m.serial = serial then { m with pending := m.pending.filter (· ≠ c) } else m

/-- R82: a car applies an entry at a marker: it takes the next regime and the authority, leaves the
marker's pending set, the marker leaves the queue if the set empties, and a capture flag triggers
the capture unit. The entry's attention flag plays no part here. -/
def applyEntry (underWay : Bool) (c : Car) (serial : Nat) (e : RegimeEntry) (s : State) : State :=
  let s1 := setRegime c { s.regime c with regime := e.next, authority := e.authority } s
  let s2 := dropEmptied underWay (setQueue (s1.marker.queue.map (Marker.without c serial)) s1)
  if e.capture then regimeTrigger c serial s2 else s2

/-- R81 to R83: one car goes through the queue, oldest marker first: it applies each marker that
holds it and stands at or below its tap cell, and stops at the first that stands above it, or at the
first whose entry has the attention flag, on which it then waits. -/
def carPass (underWay : Bool) (c : Car) : List Marker → State → State
  | [], s => s
  | m :: rest, s =>
    if c ∈ m.pending then
      if (m.cell : Int) ≤ s.tapCell c then
        let e := s.entry (s.regime c).regime m.cls
        if e.attention then setRegime c { s.regime c with waiting := some m.serial } s
        else carPass underWay c rest (applyEntry underWay c m.serial e s)
      else s
    else carPass underWay c rest s

/-- R84: the waiting car to serve: of the marker that stands earliest in the queue, the lowest
position that waits on it. -/
def toServe (s : State) : List Marker → Option (Marker × Car)
  | [] => none
  | m :: rest =>
    match allCars.find? (fun c => (s.regime c).waiting = some m.serial) with
    | some c => some (m, c)
    | none => toServe s rest

/-- R84, R85: the attention arbiter: an empty record is filled for the car to serve, its timer
started at the attention timeout, and an ATTENTION report offered. -/
def arbiter (s : State) : State :=
  match s.marker.attention, toServe s s.marker.queue with
  | none, some (m, c) =>
    let hold : Attention :=
      { serial := m.serial, car := c, cls := m.cls, param := m.param,
        regimeBefore := (s.regime c).regime, copy := s.entry (s.regime c).regime m.cls,
        timer := s.profile.attentionTimeout }
    offerReport (.attention hold) (s.setMarker { s.marker with attention := some hold })
  | _, _ => s

/-- One car's part of a pass: an enabled car that does not wait goes through the queue (R81). -/
def passCar (underWay : Bool) (c : Car) (s : State) : State :=
  if s.enabled c && (s.regime c).waiting.isNone then carPass underWay c s.marker.queue s else s

/-- R81: a pass of all cars, in rising order, and then the arbiter. -/
def pass (underWay : Bool) (s : State) : State := arbiter (forCars (passCar underWay) s)

/-- A pass would change something: some car would apply a marker or start to wait, or the arbiter
would fill the record. -/
def State.passDue (s : State) : Bool :=
  (allCars.any fun c => s.enabled c && (s.regime c).waiting.isNone &&
    (match s.marker.queue.find? (fun m => m.pending.contains c) with
      | some m => decide ((m.cell : Int) ≤ s.tapCell c)
      | none => false)) ||
  (s.marker.attention.isNone && (toServe s s.marker.queue).isSome)

/-! ## Serials -/

/-- R73: from 65535 the serial counter goes to 1. -/
def nextSerial (n : Nat) : Nat := if 65535 ≤ n then 1 else n + 1

/-- R72, R74: a marker record takes the next serial and joins the tail of the queue, its pending set
every enabled car. -/
def enqueue (kind : MarkerKind) (cls : MarkerClass) (param : Byte) (cell : Nat)
    (bank : Option Bank) (s : State) : State :=
  let m : Marker := { serial := s.marker.serialCounter, kind := kind, cls := cls, param := param,
                      cell := cell, bank := bank, pending := s.enabledCars }
  s.setMarker { s.marker with queue := s.marker.queue ++ [m],
                              serialCounter := nextSerial s.marker.serialCounter }

/-- The cell of the marker at the tail of the queue. -/
def State.tailCell (s : State) : Option Nat := s.marker.queue.getLast?.map (·.cell)

/-- R74: a SECTION_END marker is queued, never refused, its cell raised to the tail's where a queued
marker stands above it; it leaves at once if no car is enabled; and a pass follows. -/
def queueSectionEnd (cls : MarkerClass) (param : Byte) (cell : Nat) (bank : Bank) (s : State) :
    State :=
  let cell' := if s.marker.queue.any (fun m => decide (cell < m.cell)) then s.tailCell.getD cell
    else cell
  pass true (dropEmptied true (enqueue .sectionEnd cls param cell' (some bank) s))

/-! ## The end of a hold -/

/-- R87, R89, R90: the ATTENTION_END report, with the regime and the entry authority the car holds. -/
def offerAttentionEnd (reason : EndReason) (serial : Nat) (c : Car) (s : State) : State :=
  offerReport (.attentionEnd reason serial c (s.regime c).regime (s.regime c).authority) s

/-- A car's waiting field becomes none. -/
def stopWaiting (c : Car) (s : State) : State := setRegime c { s.regime c with waiting := none } s

/-- The attention record empties, and its timer with it. -/
def emptyRecord (s : State) : State := s.setMarker { s.marker with attention := none }

/-- R86, R87: the held car applies an entry, the record empties and the car stops waiting. -/
def endHold (hold : Attention) (e : RegimeEntry) (s : State) : State :=
  stopWaiting hold.car (emptyRecord (applyEntry false hold.car hold.serial e s))

/-- R89, R90: an occupied record empties without applying its entry, with reason WITHDRAWN. -/
def withdraw (s : State) : State :=
  match s.marker.attention with
  | none => s
  | some hold => offerAttentionEnd .withdrawn hold.serial hold.car (emptyRecord s)

/-- R89: the answer to a line clear: the queue emptied with no notice to the route store, the hold
withdrawn, every waiting field none, and a pass. -/
def markerClear (s : State) : State :=
  pass false (forCars stopWaiting (withdraw (setQueue [] s)))

/-- R90: what the disabling of a car does at the marker unit. -/
def markerDisable (c : Car) (s : State) : State :=
  let s1 := setQueue (s.marker.queue.map
    (fun m => { m with pending := m.pending.filter (· ≠ c) })) s
  let s2 := dropEmptied false s1
  let s3 := if s2.marker.attention.any (fun hold => hold.car = c) then withdraw s2 else s2
  pass false (stopWaiting c s3)

end Sys2Proof.Machine
end

