-- ==== Sys2Proof/Machine/RouteEnd.lean ====
section
/-! DEFINITION. The route store's starts and ends (sections 6.3 and 6.4). -/

namespace Sys2Proof.Machine

/-- R102, R103: a READY bank starts at a cell: it becomes IN_USE, its start cell is set, and a
STARTED report is offered. -/
def startBank (bank : Bank) (start : Nat) (cause : RouteCause)
    (anchor : Option (MarkerClass × Byte)) (s : State) : State :=
  offerRoute .started bank (some cause) anchor
    (setBank bank { s.route.bank bank with state := .inUse, startCell := some start } s)

/-- R104 steps 1 to 3: the bank becomes DRAINING, its SECTION_END marker is queued, and an ENDED
report is offered. -/
def drainBank (bank : Bank) (s : State) : State :=
  let r := s.route.bank bank
  let cls : MarkerClass := match r.header with
    | some h => h.endClass
    | none => 0
  offerRoute .ended bank none none
    (queueSectionEnd cls (BitVec.ofNat 8 r.sectionId) r.endCell bank
      (setBankState bank .draining s))

/-- R104 step 4: the other bank chains if it is READY, else UNKNOWN_AHEAD is reported. -/
def chainOrUnknown (ended : Bank) (s : State) : State :=
  if (s.route.bank ended.other).state = .ready then
    startBank ended.other (s.route.bank ended).endCell .chain none s
  else offerRoute .unknownAhead ended none none s

/-- The IN_USE bank's section has been passed by the newest closed cell (R104). -/
def State.endDue (s : State) : Option Bank :=
  match s.route.inUse with
  | some bank => if ((s.route.bank bank).endCell : Int) ≤ s.line.newest then some bank else none
  | none => none

/-- R104: the end test, and after each chain the chained bank's own, at most `n` ends. -/
def endChain : Nat → State → State
  | 0, s => s
  | n + 1, s =>
    match s.endDue with
    | none => s
    | some bank => endChain n (chainOrUnknown bank (drainBank bank s))

/-- R104, R105: the end test of the route store. A single event ends at most two sections; the
notices that markers have left are taken once the ends are complete. -/
def endTest (s : State) : State := takeNotices (endChain 2 s)

/-- R103: a bank whose anchor is present and equal to the marker's class and parameter. -/
def BankRecord.anchoredAt (r : BankRecord) (cls : MarkerClass) (param : Byte) : Bool :=
  r.state = .ready && (match r.header with
    | some h => h.anchor = some (cls, param)
    | none => false)

/-- R103: the start cell of an anchored bank: the marker's cell, or the other bank's end cell if
that bank is DRAINING and its end cell is greater. -/
def anchorStart (bank : Bank) (cell : Nat) (r : Route) : Nat :=
  if (r.bank bank.other).state = .draining then max cell (r.bank bank.other).endCell else cell

/-- R103: the offer of a queued TRACK marker for anchoring. -/
def offerAnchor (cls : MarkerClass) (param : Byte) (cell : Nat) (s : State) : State :=
  if s.route.inUse.isSome then s
  else if s.route.a.anchoredAt cls param then
    endTest (startBank .a (anchorStart .a cell s.route) .anchor (some (cls, param)) s)
  else if s.route.b.anchoredAt cls param then
    endTest (startBank .b (anchorStart .b cell s.route) .anchor (some (cls, param)) s)
  else s

end Sys2Proof.Machine
end

