-- ==== Sys2Proof/Machine/Answers.lean ====
section
/-! DEFINITION. The answers of the marker unit, the route store and the capture unit to an advance
(R57) and to a line clear (R65), in an order that the manual leaves open (R104, R108, R167, R175;
notes/assumptions/4.md). -/

namespace Sys2Proof.Machine

/-- What happens after the line has advanced or cleared: the three answers, and the report of the
block that caused it, where it offers one. -/
inductive Task where
  | marker
  | route
  | capture
  | report (r : Report)
deriving DecidableEq, Repr

/-- The three answers in each order. -/
def orderTasks : AnswerOrder → List Task
  | .markerRouteCapture => [.marker, .route, .capture]
  | .markerCaptureRoute => [.marker, .capture, .route]
  | .routeMarkerCapture => [.route, .marker, .capture]
  | .routeCaptureMarker => [.route, .capture, .marker]
  | .captureMarkerRoute => [.capture, .marker, .route]
  | .captureRouteMarker => [.capture, .route, .marker]

/-- The answers in an order, with the cause's own report at its place among them. -/
def arrange (o : AnswerOrder) (place : Nat) (own : Option Report) : List Task :=
  match own with
  | none => orderTasks o
  | some r => (orderTasks o).take place ++ [.report r] ++ (orderTasks o).drop place

/-- One answer to an advance: a pass (R81), the end test (R104), the overtaking test (R164). -/
def answerAdvance (t : Task) (s : State) : State :=
  match t with
  | .marker => pass false s
  | .route => endTest s
  | .capture => overtakingTest s
  | .report r => offerReport r s

/-- One answer to a line clear: R89, R108, R166. -/
def answerClear (t : Task) (s : State) : State :=
  match t with
  | .marker => markerClear s
  | .route => routeClear s
  | .capture => captureClear s
  | .report r => offerReport r s

/-- How many of these hold. -/
def countTrue (bs : List Bool) : Nat := (bs.filter id).length

/-- How many of the answers to an advance would do something now. With fewer than two every order
gives the same state. -/
def State.advanceDue (s : State) (own : Option Report) : Nat :=
  countTrue [s.passDue, s.endDue.isSome, s.overtakenNow, own.isSome]

/-- How many of the answers to a line clear would offer a report now. -/
def State.clearDue (s : State) (own : Option Report) : Nat :=
  countTrue [s.marker.attention.isSome,
    s.route.a.state.inSection || s.route.b.state.inSection,
    decide (s.capture.state ≠ .idle), own.isSome]

/-- The tasks one after another. -/
def runTasks (answer : Task → State → State) (ts : List Task) (s : State) : State :=
  ts.foldl (fun u t => answer t u) s

/-- The answers in an open order: where at least two of them would do something, the order is a free
value of Config at the number of choices made so far. -/
def answerAll (answer : Task → State → State) (due : Nat) (own : Option Report) (s : State) :
    State :=
  if 2 ≤ due then
    runTasks answer
      (arrange (Config.answerOrder s.book.choices) (Config.reportPlace s.book.choices).val own)
      (s.setBook { s.book with choices := s.book.choices + 1 })
  else runTasks answer (arrange .markerRouteCapture 0 own) s

/-- R57: an advance of k cells, cut short at the largest cell number; one that is cut to 0 changes
nothing on the line and is not handed on. `own` forms the report of the odometry unit, once the
line has advanced (R31). -/
def advance (k : Nat) (own : State → Option Report) (s : State) : State :=
  if s.line.cut k = 0 then
    match own s with
    | some r => offerReport r s
    | none => s
  else
    let t := advanceLine (s.line.cut k) s
    answerAll answerAdvance (t.advanceDue (own t)) (own t) t

/-- R65, R66: a line clear, and the answers to it. -/
def lineClear (own : Option Report) (s : State) : State :=
  let t := s.setLine s.line.cleared
  answerAll answerClear (t.clearDue own) own t

end Sys2Proof.Machine
end

