-- ==== Sys2Proof/Machine/OdometryUnit.lean ====
section
/-! DEFINITION. The odometry unit (Chapter 2): taking a frame, the timeout, the speed, the
position-uncertain condition, and the conversion of marker stamps. -/

namespace Sys2Proof.Machine

/-- R30, R116: the speed set, at most 400, and the speed gate evaluated. -/
def setSpeed (v : Nat) (s : State) : State :=
  let v' := min v 400
  (s.setOdo { s.odo with speed := v' }).setDemand
    { s.demand with gateOpen := gateNext s.profile.vOn s.profile.hysteresis v' s.demand.gateOpen }

/-- R31: an ODOMETRY report with the state and the input cell number as they stand. -/
def odoReport (event : OdoEvent) (jump : Option (JumpCause × Int)) (s : State) : Report :=
  .odometry event s.odo.state s.line.inputCell jump

/-- R28: a SLIP frame sets the condition and zeroes the recovery count; UNCERTAIN is reported if
the condition was clear. -/
def slip (s : State) : State :=
  let t := s.setOdo { s.odo with uncertain := true, recovery := 0 }
  if s.odo.uncertain then t else offerReport (odoReport .uncertain none t) t

/-- R29: while the condition is set, an OK frame adds its advance; at 200 or more the condition
clears and CERTAIN is reported. -/
def recover (k : Nat) (s : State) : State :=
  if s.odo.uncertain then
    if 200 ≤ s.odo.recovery + k then
      let t := s.setOdo { s.odo with uncertain := false, recovery := 0 }
      offerReport (odoReport .certain none t) t
    else s.setOdo { s.odo with recovery := s.odo.recovery + k }
  else s

/-- R20, R24: the frame's distance becomes the reference, the speed is set, the timeout started at
100 ms, and the unit enters TRACKING. -/
def setReference (d : Distance) (speed : Nat) (s : State) : State :=
  let t := setSpeed speed s
  t.setOdo { t.odo with state := .tracking, lastDistance := d, remainder := 0, debt := 0,
                        timeout := some 100 }

/-- R20: a frame taken in UNSET. -/
def takeUnset (d : Distance) (speed : Nat) (slipped : Bool) (s : State) : State :=
  let t := setReference d speed s
  if slipped then slip t else t

/-- R24: a frame taken in LOST: line clear with its answers and the RESTORED report, re-base, and a
SLIP handled last, its UNCERTAIN report after every answer to the line clear. R24 places that report
after RESTORED alone; its place after the answers is the model's own choice, DEDUCED from the order
of R24's text (notes/assumptions/4.md). -/
def takeLost (d : Distance) (speed : Nat) (slipped : Bool) (s : State) : State :=
  let restored : Report := .odometry .restored .tracking s.line.inputCell none
  let t := setReference d speed (lineClear (some restored) s)
  if slipped then slip t else t

/-- R26, R27: what a forward step of `delta` cm leaves: debt, remainder, cells, and whether the step
was clamped to 64 cells. -/
structure Forward where
  debt : Nat
  remainder : Nat
  cells : Nat
  clamped : Bool
deriving DecidableEq, Repr

/-- R26, R27: debt first, then new ground into whole cells of 50 cm, at most 64. -/
def forwardStep (delta debt remainder : Nat) : Forward :=
  let m := min delta debt
  let r := remainder + (delta - m)
  if 64 < r / 50 then { debt := debt - m, remainder := 0, cells := 64, clamped := true }
  else { debt := debt - m, remainder := r % 50, cells := r / 50, clamped := false }

/-- R23, R25, R26, R27: steps 3 and 4 of R22 for a delta: the debt and the remainder, the JUMP
reports, and the advance. -/
def takeDelta (delta : Int) (s : State) : State :=
  if delta < -3200 then
    let t := s.setOdo { s.odo with remainder := 0, debt := 0 }
    offerReport (odoReport .jump (some (.backward, delta)) t) t
  else if delta < 0 then
    s.setOdo { s.odo with debt := min (s.odo.debt + (-delta).toNat) 65535 }
  else
    let f := forwardStep delta.toNat s.odo.debt s.odo.remainder
    let t := s.setOdo { s.odo with debt := f.debt, remainder := f.remainder }
    if f.cells = 0 then t
    else advance f.cells
      (fun u => if f.clamped then some (odoReport .jump (some (.forward, delta)) u) else none) t

/-- The cells that a delta hands to the history line, after the clamp (R27, R29). -/
def deltaCells (delta : Int) (s : State) : Nat :=
  if delta ≤ 0 then 0 else (forwardStep delta.toNat s.odo.debt s.odo.remainder).cells

/-- R22: a frame taken in TRACKING. Step 5, with the UNCERTAIN or CERTAIN report it may offer, comes
after the answers of the blocks to the advance of step 4: DEDUCED from the order of the steps of R22,
and the model's own choice among the orders that R27 and R175 leave open (notes/assumptions/4.md). -/
def takeTracking (d : Distance) (speed : Nat) (slipped : Bool) (s : State) : State :=
  let s1 := setSpeed speed s
  let delta := counterDiff d s1.odo.lastDistance
  let s2 := s1.setOdo { s1.odo with timeout := some 100, lastDistance := d }
  let s3 := takeDelta delta s2
  if slipped then slip s3 else recover (deltaCells delta s2) s3

/-- R18, R19: a taken frame is handled by the rule for the present odometry state. -/
def takeOdometry (d : Distance) (speed : Nat) (slipped : Bool) (s : State) : State :=
  match s.odo.state with
  | .unset => takeUnset d speed slipped s
  | .tracking => takeTracking d speed slipped s
  | .lost => takeLost d speed slipped s

/-- R18: the payload judged: ignored on a wrong length, an undefined health or health FAULT. -/
def handleOdometry (p : List Byte) (s : State) : State :=
  if p.length ≠ 7 then s
  else if field p 6 1 = 0 then takeOdometry (BitVec.ofNat 32 (field p 0 4)) (field p 4 2) false s
  else if field p 6 1 = 1 then takeOdometry (BitVec.ofNat 32 (field p 0 4)) (field p 4 2) true s
  else s

/-- R21: the expiry of the odometry timeout, which runs in TRACKING alone. -/
def odometryExpiry (s : State) : State :=
  if s.odo.state = .tracking ∧ s.odo.timeout.isSome then
    let t := setSpeed 0 (s.setOdo { s.odo with state := .lost, timeout := none })
    offerReport (odoReport .lost none t) t
  else s

/-- What a stamp conversion gives (R32). -/
inductive Converted where
  | cell (n : Nat)
  | stale
  | noPosition
deriving DecidableEq, Repr

/-- R32: the conversion of a distance stamp. -/
def convertStamp (stamp : Distance) (s : State) : Converted :=
  if s.odo.state ≠ .tracking then .noPosition
  else
    let back := max (counterDiff s.odo.lastDistance stamp) 0
    if 3200 < back then .stale
    else
      let cell := s.line.newest - back / 50
      if cell < (s.line.clearMark : Int) then .noPosition else .cell cell.toNat

/-! ## Markers (sections 5.1 and 5.2), which need the conversion -/

/-- R76: the marker-loss condition set. -/
def setLoss (x : Bool) (s : State) : State := s.setMarker { s.marker with loss := x }

/-- R77: the MARKER report of a refused track marker. -/
def refuseMarker (reason : MarkerReason) (cls : MarkerClass) (param : Byte) (stamp : Distance)
    (cell tail : Option Int) (s : State) : State :=
  offerReport (.marker reason cls param stamp cell tail s.marker.loss s.marker.queue.length) s

/-- The TRACK markers queued. -/
def State.trackCount (s : State) : Nat :=
  (s.marker.queue.filter (fun m => m.kind = .track)).length

/-- R72: a track marker is queued, offered for anchoring, removed at once if no car is enabled, and
followed by a pass. -/
def queueTrack (cls : MarkerClass) (param : Byte) (cell : Nat) (s : State) : State :=
  let s1 := enqueue .track cls param cell none s
  let s2 := offerAnchor cls param cell s1
  pass false (dropEmptied false s2)

/-- R71: the tests of a track marker, the first that fails refusing it. -/
def offerMarker (cls : MarkerClass) (param : Byte) (stamp : Distance) (s : State) : State :=
  match convertStamp stamp s with
  | .stale => refuseMarker .stale cls param stamp none none s
  | .noPosition => refuseMarker .noPosition cls param stamp none none s
  | .cell cell =>
    if s.tailCell.any (fun t => decide (cell < t)) then
      refuseMarker .order cls param stamp (some cell) (s.tailCell.map Int.ofNat) s
    else if 30 ≤ s.trackCount then
      refuseMarker .full cls param stamp (some cell) none (setLoss true s)
    else queueTrack cls param cell s

/-- R70: the payload judged: ignored on a wrong length or a class above 15. -/
def handleMarker (p : List Byte) (s : State) : State :=
  if p.length ≠ 6 then s
  else match readFin 16 (field p 0 1) with
    | none => s
    | some cls => offerMarker cls (byteAt p 1) (BitVec.ofNat 32 (field p 2 4)) s

end Sys2Proof.Machine
end

