-- ==== Sys2Proof/Machine/SensorMonitor.lean ====
section
/-! DEFINITION. The sensor monitor (Chapter 3). -/

namespace Sys2Proof.Machine

/-- The channel record of a channel. -/
def Sensor.chan (m : Sensor) (ch : Channel) : ChannelRecord :=
  match ch with
  | .p => m.chP
  | .q => m.chQ

/-- The sensor monitor with one channel record replaced. -/
def Sensor.setChan (m : Sensor) (ch : Channel) (x : ChannelRecord) : Sensor :=
  match ch with
  | .p => { m with chP := x }
  | .q => { m with chQ := x }

/-- The other channel. -/
def otherChannel : Channel → Channel
  | .p => .q
  | .q => .p

/-- The pair state SINGLE_X of a channel X. -/
def singleOf : Channel → PairState
  | .p => .singleP
  | .q => .singleQ

/-- R44: the pair state after channel X has become GOOD. -/
def pairGained (x : Channel) (st : PairState) : PairState :=
  if st = .none then singleOf x else st

/-- R44: the pair state after channel X has left GOOD, `yGood` telling whether the other is GOOD. -/
def pairLost (x : Channel) (yGood : Bool) (st : PairState) : PairState :=
  if st = singleOf x then (if yGood then singleOf (otherChannel x) else .none)
  else if st = .dual ∨ st = .disagree then singleOf (otherChannel x)
  else st

/-- R51: a SENSOR report where the pair state has changed from `before`, none where it has not. -/
def reportPair (before : PairState) (cause : SensorCause) (channel : Option Channel)
    (windowSum : Nat) (s : State) : State :=
  let m := s.sensor
  if m.pairState = before then s
  else offerReport (.sensor before m.pairState cause channel m.chP.state m.chQ.state windowSum) s

/-- R40, R44: a channel leaves SETTLING or GOOD for ABSENT; where it was GOOD, the window empties,
both runs become 0 and the pair state is updated. -/
def Sensor.loseChannel (m : Sensor) (x : Channel) : Sensor :=
  let n := m.setChan x .reset
  if (m.chan x).state = .good then
    { n with window := [], disagreeRun := 0, agreeRun := 0,
             pairState := pairLost x ((m.chan (otherChannel x)).state = .good) m.pairState }
  else n

/-- R40, R51: the loss of a channel and its report. -/
def loseChannel (x : Channel) (cause : SensorCause) (s : State) : State :=
  reportPair s.sensor.pairState cause (some x) 0 (s.setSensor (s.sensor.loseChannel x))

/-- R36 step 1 for an OK frame: R37, R38, R39. The latest sample is stored in step 5. -/
def ChannelRecord.takeOk (r : ChannelRecord) : ChannelRecord :=
  match r.state with
  | .absent => { r with state := .settling, settle := 1, timeout := some 25 }
  | .settling =>
    if 32 ≤ r.settle + 1 then { r with state := .good, settle := 32, timeout := some 25 }
    else { r with settle := r.settle + 1, timeout := some 25 }
  | .good => { r with timeout := some 25 }

/-- R36 steps 1 and 2 for an OK frame: the channel record, and the pair state where the channel has
become GOOD. -/
def Sensor.settleChannel (m : Sensor) (x : Channel) : Sensor :=
  let n := m.setChan x (m.chan x).takeOk
  if (m.chan x).state ≠ .good ∧ (n.chan x).state = .good then
    { n with pairState := pairGained x m.pairState }
  else n

/-- R42: the pair that a sample of channel X forms with the other channel's latest sample, if one
forms. -/
def Sensor.pairing (m : Sensor) (x : Channel) (v : Sample) : Option Pair :=
  let y := m.chan (otherChannel x)
  if (m.chan x).state = .good ∧ y.state = .good ∧ y.paired = false then
    match y.latest with
    | some w =>
      if w.stamp = v.stamp then
        some (match x with | .p => ⟨v.value, w.value⟩ | .q => ⟨w.value, v.value⟩)
      else none
    | none => none
  else none

/-- R43: a pair joins the tail of the window; a fifth pushes the oldest out. -/
def pushPair (w : List Pair) (x : Pair) : List Pair :=
  if 4 ≤ w.length then w.drop 1 ++ [x] else w ++ [x]

/-- R43: the window sum D of a full window. -/
def windowSum (w : List Pair) : Nat := (w.map (fun x => (x.p - x.q).natAbs)).sum

/-- R45, R46, R47: a full window of sum d judged against T, in each pair state. -/
def Sensor.judge (m : Sensor) (t d : Nat) : Sensor :=
  match m.pairState with
  | .none => m
  | .singleP => if d ≤ t then { m with pairState := .dual, disagreeRun := 0, agreeRun := 0 } else m
  | .singleQ => if d ≤ t then { m with pairState := .dual, disagreeRun := 0, agreeRun := 0 } else m
  | .dual =>
    if d ≤ t then { m with disagreeRun := 0 }
    else if 3 ≤ m.disagreeRun + 1 then
      { m with pairState := .disagree, disagreeRun := 0, agreeRun := 0 }
    else { m with disagreeRun := m.disagreeRun + 1 }
  | .disagree =>
    if d ≤ t then
      if 16 ≤ m.agreeRun + 1 then { m with pairState := .dual, disagreeRun := 0, agreeRun := 0 }
      else { m with agreeRun := m.agreeRun + 1 }
    else { m with agreeRun := 0 }

/-- R42, R43: a pair that has formed: the other channel's paired mark, the window, and, where the
window is full, its judging. -/
def Sensor.addPair (m : Sensor) (x : Channel) (t : Nat) (pr : Pair) : Sensor :=
  let y := otherChannel x
  let n : Sensor :=
    { m.setChan y { m.chan y with paired := true } with window := pushPair m.window pr }
  if n.window.length = 4 then n.judge t (windowSum n.window) else n

/-- R36 step 3: the pairing test and the judging. -/
def Sensor.tryPair (m : Sensor) (x : Channel) (t : Nat) (pr : Option Pair) : Sensor :=
  match pr with
  | some v => m.addPair x t v
  | none => m

/-- R49: the fused sample of a frame of channel X, by the pair state after step 3. -/
def fusedSample (st : PairState) (x : Channel) (v : Sample) (pr : Option Pair) :
    Option (Int × SampleQuality) :=
  if st = .dual then pr.map (fun w => (nearest (w.p + w.q) 2, .dual))
  else if st = singleOf x then some (v.value, .single)
  else none

/-- R36 step 5: the sample becomes the channel's latest, with its paired mark. -/
def Sensor.storeLatest (m : Sensor) (x : Channel) (v : Sample) (paired : Bool) : Sensor :=
  m.setChan x { m.chan x with latest := some v, paired := paired }

/-- The cause of a change of pair state made by judging (R51). -/
def judgeCause (after : PairState) : SensorCause :=
  if after = .disagree then .disagree else .agree

/-- R36: an OK frame of channel X taken. -/
def takeSample (x : Channel) (v : Sample) (s : State) : State :=
  let s1 := reportPair s.sensor.pairState .channelGood (some x) 0
    (s.setSensor (s.sensor.settleChannel x))
  let m := s1.sensor
  let pr := m.pairing x v
  let n := m.tryPair x s.profile.threshold pr
  let s2 := reportPair m.pairState (judgeCause n.pairState) none (windowSum n.window)
    (s1.setSensor n)
  let s3 := match fusedSample n.pairState x v pr with
    | some (value, q) => deliverSample value q s2
    | none => s2
  s3.setSensor (s3.sensor.storeLatest x v pr.isSome)

/-- R36, R40: a FAULT frame of channel X taken. -/
def takeFault (x : Channel) (s : State) : State :=
  if (s.sensor.chan x).state = .absent then s else loseChannel x .channelFault s

/-- R35: the payload judged: ignored on a wrong length or an undefined health; the value clamped. -/
def handleSensor (x : Channel) (p : List Byte) (s : State) : State :=
  if p.length ≠ 5 then s
  else if field p 4 1 = 0 then
    takeSample x ⟨BitVec.ofNat 16 (field p 0 2), bound (-2048) 2047 (fieldS p 2 2)⟩ s
  else if field p 4 1 = 1 then takeFault x s
  else s

/-- R40: the expiry of a running channel timeout. -/
def channelExpiry (x : Channel) (s : State) : State :=
  if (s.sensor.chan x).timeout.isSome then loseChannel x .channelTimeout s else s

end Sys2Proof.Machine
end

