-- ==== Sys2Proof/Machine/IntakeUnit.lean ====
section
/-! DEFINITION. The port receivers and the intake unit (sections 1.1 to 1.5). -/

namespace Sys2Proof.Machine

/-- R1: the frame that a delimited run of bytes is, or `none` where the receiver discards it: fewer
than 8 bytes, a byte count that is not 8 plus the length field, a length field above 56, or a frame
check that does not agree. -/
def parseFrame (run : List Byte) : Option Frame :=
  let len := field run 4 1
  if run.length < 8 then none
  else if run.length ≠ 8 + len then none
  else if 56 < len then none
  else
    let f : Frame :=
      { dest := byteAt run 0, source := byteAt run 1, cls := byteAt run 2, seq := byteAt run 3,
        flags := byteAt run 5, payload := (run.drop 6).take len,
        check := BitVec.ofNat 16 (field run (6 + len) 2) }
    if frameCheck f.covered = f.check then some f else none

/-- R1: the port's check error counter. -/
def countCheckError (port : Port) (s : State) : State :=
  match port with
  | .fore => s.setCounters { s.counters with foreCheck := bump s.counters.foreCheck }
  | .aft => s.setCounters { s.counters with aftCheck := bump s.counters.aftCheck }

/-- The indexes of the intake table. -/
def intakeIndexes : List (Fin 16) := [0, 1, 2, 3, 4, 5, 6, 7, 8, 9, 10, 11, 12, 13, 14, 15]

/-- R6 case 4: the entry whose source and class are those of the frame, and its index. -/
def matching (t : Vector IntakeSlot 16) (source cls : Byte) : Option (Fin 16 × IntakeEntry) :=
  intakeIndexes.findSome? (fun i => match t[i].entry with
    | some e => if e.source = source ∧ e.cls = cls then some (i, e) else none
    | none => none)

/-- The outcome of the sequence test of R8. -/
inductive SeqTest where
  | duplicate
  | inOrder
  | gap
deriving DecidableEq, Repr

/-- R8: a frame's sequence against the sequence memory. -/
def seqTest (memory : Option Byte) (seq : Byte) : SeqTest :=
  match memory with
  | none => .inOrder
  | some m => if seq = m then .duplicate else if seq = m + 1 then .inOrder else .gap

/-- R8: an accepted frame's sequence enters the memory, and a gap is counted. -/
def acceptSeq (i : Fin 16) (seq : Byte) (test : SeqTest) (s : State) : State :=
  let t := s.setIntake (s.intake.set i { s.intake[i] with memory := some seq })
  if test = .gap then t.setCounters { t.counters with seqGaps := bump t.counters.seqGaps } else t

/-- R4, R7: the block that an entry's role names handles the payload. A MANAGER entry's frames do
not reach this rule. -/
def deliver (role : Role) (p : List Byte) (s : State) : State :=
  match role with
  | .sensorP => handleSensor .p p s
  | .sensorQ => handleSensor .q p s
  | .odometry => handleOdometry p s
  | .markerReader => handleMarker p s
  | .unitStatus => handleUnitStatus p s
  | .manager => s

/-- R7: the frame handed to its block and, where the entry says so, a copy offered for forwarding.
A copy that travels aft goes to the aft-bound queue, which no block's handling offers to. A copy that
travels fore meets the block's reports in the fore-bound queue, and either may be judged first
(R12): where the handling reaches the ports or the counters, the order is a free value. -/
def handOver (e : IntakeEntry) (port : Port) (f : Frame) (s : State) : State :=
  let t := deliver e.role f.payload s
  if e.forward then
    if port = .fore ∨ (t.ports = s.ports ∧ t.counters = s.counters) then forward port f t
    else
      let u := s.setBook { s.book with choices := s.book.choices + 1 }
      if Config.copyFirst s.book.choices then deliver e.role f.payload (forward port f u)
      else forward port f (deliver e.role f.payload u)
  else t

/-- R6 case 4, R8: a frame that matches an entry. -/
def matchedFrame (i : Fin 16) (e : IntakeEntry) (port : Port) (f : Frame) (s : State) : State :=
  match seqTest s.intake[i].memory f.seq with
  | .duplicate => s
  | test => handOver e port f (acceptSeq i f.seq test s)

/-- R170: a request joins the tail of the request queue, or is discarded and counted. -/
def queueRequest (f : Frame) (accepted : Bool) (s : State) : State :=
  if s.executor.queue.length < 4 then
    s.setExecutor { s.executor with
      queue := s.executor.queue ++ [⟨f.payload, f.source, accepted⟩] }
  else s.setCounters { s.counters with requestDrops := bump s.counters.requestDrops }

/-- The intake table holds a MANAGER entry. -/
def hasManager (t : Vector IntakeSlot 16) : Bool :=
  intakeIndexes.any (fun i => match t[i].entry with
    | some e => decide (e.role = .manager)
    | none => false)

/-- R9: the MANAGER entry that the source of a request matches. -/
def managerEntry (t : Vector IntakeSlot 16) (source : Byte) : Option (Fin 16) :=
  intakeIndexes.find? (fun i => match t[i].entry with
    | some e => decide (e.role = .manager ∧ e.source = source)
    | none => false)

/-- R9: the standing of a request addressed to the part, and its joining the request queue. -/
def acceptRequest (f : Frame) (s : State) : State :=
  if hasManager s.intake then
    match managerEntry s.intake f.source with
    | none => queueRequest f false s
    | some i =>
      match seqTest s.intake[i].memory f.seq with
      | .duplicate => s
      | test => queueRequest f true (acceptSeq i f.seq test s)
  else queueRequest f true s

/-- R6: the first case that fits. -/
def intakeFrame (port : Port) (f : Frame) (s : State) : State :=
  if f.cls = clsRequest then
    if f.dest = s.nodeAddress then acceptRequest f s else forward port f s
  else if f.cls = clsCommand ∨ f.cls = clsReply ∨ f.cls = clsReport then forward port f s
  else match matching s.intake f.source f.cls with
    | some (i, e) => matchedFrame i e port f s
    | none => forward port f s

/-- R1, R6: a delimited run received whole at a port. -/
def receiveRun (port : Port) (run : List Byte) (s : State) : State :=
  match parseFrame run with
  | none => countCheckError port s
  | some f => intakeFrame port f s

end Sys2Proof.Machine
end

