-- ==== Sys2Proof/Machine/RequestExecutor.lean ====
section
/-! DEFINITION. The request executor (Chapter 11): the request index, taking the head request, its
judging by R172, and placing the reply. -/

namespace Sys2Proof.Machine

/-- The requests of the index in section 11.4. -/
inductive RequestName where
  | readStatus
  | readCar
  | readMarkers
  | readBank
  | setState
  | warmRestart
  | setLineProfile
  | setCarProfile
  | setCarOrder
  | clearCar
  | setIntakeEntry
  | setRegimeEntry
  | attentionRelease
  | clearMarkerLoss
  | routeOpen
  | routePoints
  | routeClose
  | routeDiscard
  | captureStart
  | captureRead
  | captureRelease
deriving DecidableEq, Repr

/-- The request code of section 12.3, read. -/
def RequestName.ofCode (code : Nat) : Option RequestName :=
  match code with
  | 0x01 => some .readStatus
  | 0x02 => some .readCar
  | 0x03 => some .readMarkers
  | 0x04 => some .readBank
  | 0x05 => some .setState
  | 0x06 => some .warmRestart
  | 0x07 => some .setLineProfile
  | 0x08 => some .setCarProfile
  | 0x09 => some .setCarOrder
  | 0x0A => some .clearCar
  | 0x0B => some .setIntakeEntry
  | 0x0C => some .setRegimeEntry
  | 0x0D => some .attentionRelease
  | 0x0E => some .clearMarkerLoss
  | 0x0F => some .routeOpen
  | 0x10 => some .routePoints
  | 0x11 => some .routeClose
  | 0x12 => some .routeDiscard
  | 0x13 => some .captureStart
  | 0x14 => some .captureRead
  | 0x15 => some .captureRelease
  | _ => none

/-- The request that an envelope names: `none` where it is too short to hold a code and a tag, or
its code names no request (R172 cases 2 and 3). -/
def Request.name (r : Request) : Option RequestName :=
  if r.envelope.length < 3 then none else RequestName.ofCode (field r.envelope 0 1)

/-- The request payload, after the code and the tag (section 12.2). -/
def Request.payload (r : Request) : List Byte := r.envelope.drop 3

/-- Section 12.3: the payload has the length its request must have. For Route Points the test is
made with the count field, and a count of 0 or above 8 matches no length. -/
def lengthFits (name : RequestName) (p : List Byte) : Bool :=
  match name with
  | .readStatus => p.length = 0
  | .readCar => p.length = 1
  | .readMarkers => p.length = 1
  | .readBank => p.length = 1
  | .setState => p.length = 1
  | .warmRestart => p.length = 0
  | .setLineProfile => p.length = 19
  | .setCarProfile => p.length = 14
  | .setCarOrder => p.length = 12
  | .clearCar => p.length = 1
  | .setIntakeEntry => p.length = 6
  | .setRegimeEntry => p.length = 6
  | .attentionRelease => p.length = 7
  | .clearMarkerLoss => p.length = 0
  | .routeOpen => p.length = 9
  | .routePoints =>
    3 ≤ p.length && 1 ≤ field p 2 1 && field p 2 1 ≤ 8 && p.length = 3 + 6 * field p 2 1
  | .routeClose => p.length = 3
  | .routeDiscard => p.length = 1
  | .captureStart => p.length = 9
  | .captureRead => p.length = 0
  | .captureRelease => p.length = 0

/-- R12, R171: the executor may take a request: no reservation held and at least one place free. The
part takes nothing while the cold-reset pin is asserted (R159). -/
def State.canTake (s : State) : Bool :=
  !s.pins.coldReset && !s.ports.reservation && decide (1 ≤ s.ports.foreFree)

/-- R171: the head request leaves the queue and the reply reservation is made. The step of a row of
the table takes the head request only where it is the one the row names (`none`: UNKNOWN_REQUEST). -/
def takeRequest (name : Option RequestName) (s : State) : Option (Request × State) :=
  match s.executor.queue with
  | [] => none
  | r :: rest =>
    if s.canTake ∧ r.name = name then
      some (r, (s.setExecutor { s.executor with queue := rest }).setPorts
        { s.ports with reservation := true })
    else none

/-- R172: what the executor gives a taken request that names `name`: DENIED on its standing, FORMAT on
its payload length, else what its owning block does and answers. -/
def judge (name : RequestName) (act : List Byte → State → Reply × State) (r : Request)
    (t : State) : Reply × State :=
  if !r.accepted then (.bare .denied, t)
  else if !lengthFits name r.payload then (.bare .format, t)
  else act r.payload t

/-- R171: the head request taken, executed whole and answered. Where the executor cannot take it, or
the head is not this request, the step does not take place and nothing changes
(notes/assumptions/1.md). -/
def serve (name : RequestName) (act : List Byte → State → Reply × State) (s : State) : State :=
  match takeRequest (some name) s with
  | none => s
  | some (r, t) => placeReply r (judge name act r t).1 (judge name act r t).2

/-- A refused request: it changes nothing. -/
def refuse (c : ReplyCode) (s : State) : Reply × State := (.bare c, s)

/-- A request carried out, with an empty reply payload. -/
def done (s : State) : Reply × State := (.bare .ok, s)

end Sys2Proof.Machine
end

