-- ==== Sys2Proof/Machine/TableRequests.lean ====
section
/-! DEFINITION. The requests that load tables and answer the marker unit: Set Intake Entry, Set Regime
Entry, Attention Release, Clear Marker Loss. -/

namespace Sys2Proof.Machine

/-! ## Set Intake Entry -/

/-- R4: the class a role holds. -/
def Role.cls : Role → Byte
  | .sensorP => clsSensor
  | .sensorQ => clsSensor
  | .odometry => clsOdometry
  | .markerReader => clsMarker
  | .unitStatus => clsUnitStatus
  | .manager => clsRequest

/-- R4: at most one entry of these roles. -/
def Role.single : Role → Bool
  | .sensorP => true
  | .sensorQ => true
  | .odometry => true
  | _ => false

/-- R5 test 3: the class does not fit the role, or another index holds the same source and class, or
the same role where at most one entry may hold it. -/
def entryClash (t : Vector IntakeSlot 16) (i : Fin 16) (e : IntakeEntry) : Bool :=
  decide (e.cls ≠ e.role.cls) ||
  intakeIndexes.any (fun j => decide (j ≠ i) && t[j].entry.any (fun x =>
    (decide (x.source = e.source) && decide (x.cls = e.cls)) ||
    (e.role.single && decide (x.role = e.role))))

/-- R5: the entry at the index replaced or made empty, its sequence memory absent. -/
def writeIntake (i : Fin 16) (e : Option IntakeEntry) (s : State) : State :=
  s.setIntake (s.intake.set i ⟨e, none⟩)

/-- R5: the tests in order, for an entry to write or the indication "empty". -/
def judgeIntake (index : Nat) (e : Option IntakeEntry) (s : State) : Reply × State :=
  if s.executor.opState ≠ .safe then refuse .wrongState s
  else match readFin 16 index with
    | none => refuse .range s
    | some i =>
      match e with
      | none => done (writeIntake i none s)
      | some x => if entryClash s.intake i x then refuse .format s
        else done (writeIntake i (some x) s)

/-- R178: an undefined entry-present, role or forward field is answered FORMAT before every test of
R5; with entry present 0 the entry fields are not read (R177). -/
def actSetIntakeEntry (p : List Byte) (s : State) : Reply × State :=
  match readBool (field p 1 1) with
  | none => refuse .format s
  | some false => judgeIntake (field p 0 1) none s
  | some true =>
    match readRole (field p 4 1), readBool (field p 5 1) with
    | some role, some fwd =>
      judgeIntake (field p 0 1)
        (some { source := byteAt p 2, cls := byteAt p 3, role := role, forward := fwd }) s
    | _, _ => refuse .format s

/-! ## Regime table entries -/

/-- Four fields of a regime table entry as sent: an undefined field gives FORMAT, else a next regime
above 7 gives RANGE (R79, R86, R178). -/
def readEntry (p : List Byte) (off : Nat) : Except ReplyCode RegimeEntry :=
  match readBool (field p (off + 2) 1), readBool (field p (off + 3) 1),
      readAuthority (field p (off + 1) 1) with
  | some attention, some capture, some authority =>
    match readFin 8 (field p off 1) with
    | some next => .ok ⟨next, authority, attention, capture⟩
    | none => .error .range
  | _, _, _ => .error .format

/-- R79: the entry of a regime and a class replaced. -/
def writeEntry (r : Regime) (cls : MarkerClass) (e : RegimeEntry) (s : State) : State :=
  s.setMarker { s.marker with table := s.marker.table.set r (s.marker.table[r].set cls e) }

/-- R79. -/
def actSetRegimeEntry (p : List Byte) (s : State) : Reply × State :=
  match readEntry p 2 with
  | .error code => refuse code s
  | .ok e =>
    match readFin 8 (field p 0 1), readFin 16 (field p 1 1) with
    | some r, some cls => done (writeEntry r cls e s)
    | _, _ => refuse .range s

/-! ## Attention Release and the expiry of the attention timer -/

/-- R86: the hold released with an entry, and the pass that follows. -/
def releaseHold (hold : Attention) (e : RegimeEntry) (s : State) : State :=
  pass false (endHold hold e s)

/-- R86: the outcome of a release that names a serial, with a replacement entry or none. -/
def release (serial : Nat) (replacement : Option RegimeEntry) (s : State) : Reply × State :=
  match s.marker.attention with
  | some hold =>
    if hold.serial = serial then done (releaseHold hold (replacement.getD hold.copy) s)
    else if s.marker.lastTimedOut = some serial then refuse .tooLate s
    else refuse .nothingPending s
  | none =>
    if s.marker.lastTimedOut = some serial then refuse .tooLate s else refuse .nothingPending s

/-- R86, R178: with replacement present 0 the replacement fields are not read. -/
def actAttentionRelease (p : List Byte) (s : State) : Reply × State :=
  match readBool (field p 2 1) with
  | none => refuse .format s
  | some false => release (field p 0 2) none s
  | some true =>
    match readEntry p 3 with
    | .error code => refuse code s
    | .ok e => release (field p 0 2) (some e) s

/-- R87: the copy with its authority capped at LIMITED. -/
def RegimeEntry.capped (e : RegimeEntry) : RegimeEntry :=
  { e with authority := e.authority.cap .limited }

/-- R87: the expiry of a running attention timer. -/
def attentionExpiry (s : State) : State :=
  match s.marker.attention with
  | none => s
  | some hold =>
    let s1 := endHold hold hold.copy.capped s
    let s2 := s1.setMarker { s1.marker with lastTimedOut := some hold.serial }
    pass false (offerAttentionEnd .timeout hold.serial hold.car s2)

/-! ## Clear Marker Loss -/

/-- R76: the condition cleared, whether or not it was set. -/
def actClearMarkerLoss (_p : List Byte) (s : State) : Reply × State := done (setLoss false s)

end Sys2Proof.Machine
end

