-- ==== Sys2Proof/Machine/Events.lean ====
section
/-! DEFINITION. The meanings of the events: the cold-reset pin, the port receivers, the transmitters
and the timers. While the cold-reset pin is held asserted the part sends no frame and takes none
(R159), and none of the other events takes place. -/

namespace Sys2Proof.Machine

/-- What every command answers: the part never stops. -/
abbrev Answer := Host.Outcome State Fault Refusal

/-- R159: an event of a part that is not held in cold reset. -/
def unlessReset (f : State → State) (s : State) : State := if s.pins.coldReset then s else f s

/-- R3: a strapped value of 255 is read as 254. -/
def nodeOf (straps : Byte) : Byte := if straps = 255 then 254 else straps

/-- R159: the pin asserted; a frame that was being sent is lost. -/
def assertReset (s : State) : State :=
  (s.setPins { s.pins with coldReset := true }).setPorts
    { s.ports with aftTx := none, foreTx := none }

/-- R159: every block at its cold-reset value, the node address read from the straps; the queue of
waiting commands and the model's count of open choices go on. -/
def releaseReset (straps : Byte) (s : State) : State :=
  ((((State.reset.setPins ⟨false, straps⟩).setNodeAddress (nodeOf straps)).setBook
    ⟨s.book.choices, []⟩).setPending s.pending)

/-- R11: the aft transmitter ends its frame and the arbiter begins the next candidate. -/
def aftEnd (s : State) : State :=
  match s.ports.aftTx with
  | none => s
  | some _ => s.setPorts (Ports.aftKick s.nodeAddress { s.ports with aftTx := none })

/-- R13: the fore transmitter ends its frame and begins the head frame of the fore-bound queue. -/
def foreEnd (s : State) : State :=
  match s.ports.foreTx with
  | none => s
  | some _ => s.setPorts (Ports.foreKick { s.ports with foreTx := none })

/-- COLD_RESET_ASSERT. -/
def execColdResetAssert (s : State) : Answer := .next (assertReset s)

/-- COLD_RESET_RELEASE. -/
def execColdResetRelease (straps : Byte) (s : State) : Answer := .next (releaseReset straps s)

/-- PORT_FRAME_RECEIVED. -/
def execPortFrameReceived (port : Port) (run : List Byte) (s : State) : Answer :=
  .next (unlessReset (receiveRun port run) s)

/-- AFT_TRANSMIT_END. -/
def execAftTransmitEnd (s : State) : Answer := .next (unlessReset aftEnd s)

/-- FORE_TRANSMIT_END. -/
def execForeTransmitEnd (s : State) : Answer := .next (unlessReset foreEnd s)

/-- ODOMETRY_TIMEOUT. -/
def execOdometryTimeout (s : State) : Answer := .next (unlessReset odometryExpiry s)

/-- CHANNEL_TIMEOUT. -/
def execChannelTimeout (channel : Channel) (s : State) : Answer :=
  .next (unlessReset (channelExpiry channel) s)

/-- COMMAND_TIMER_EXPIRY. -/
def execCommandTimerExpiry (s : State) : Answer := .next (unlessReset commandExpiry s)

/-- ATTENTION_TIMER_EXPIRY. -/
def execAttentionTimerExpiry (s : State) : Answer := .next (unlessReset attentionExpiry s)

end Sys2Proof.Machine
end

