-- ==== Sys2Proof/Machine/StateRequests.lean ====
section
/-! DEFINITION. The requests of Chapter 9: Set State with the check on leaving SAFE, Warm Restart,
and Set Line Profile. -/

namespace Sys2Proof.Machine

/-! ## Set State -/

/-- The channel states of the twelve positions, for the STATE report (R156). -/
def State.channelStates (s : State) : List ChanState := allCars.map (fun c => (s.channel c).state)

/-- The operating state replaced. -/
def setOpState (x : OpState) (s : State) : State := s.setExecutor { s.executor with opState := x }

/-- R156: the STATE report of a change from `before`. -/
def offerState (before : OpState) (cause : StateCause) (s : State) : State :=
  offerReport (.state before s.executor.opState cause s.channelStates) s

/-- R150: a change to SAFE. -/
def changeToSafe (s : State) : State := parkAllWaiting (forCars parkForSafe (setOpState .safe s))

/-- R152, R153: a change to ACTIVE. -/
def changeToActive (s : State) : State := forCars activateCar (setOpState .active s)

/-- R154: a change from ACTIVE to STANDBY. -/
def changeToStandby (s : State) : State := forCars standbyCar (setOpState .standby s)

/-- The outcome of the check that failed (R151): item, position or none, detail. -/
structure CheckFailure where
  item : Nat
  position : Option Car
  detail : Nat
deriving DecidableEq, Repr

/-- R151 item 1: at least one logical position is enabled. -/
def checkEnabled (s : State) : Option CheckFailure :=
  if s.enabledCars = [] then some ⟨1, none, 0⟩ else none

/-- R151 item 2: no two enabled positions have the same unit id. -/
def checkUnits (s : State) : Option CheckFailure :=
  (s.enabledCars.find? (fun c =>
    s.enabledCars.any (fun d => decide (d < c) && s.unitOf d = s.unitOf c))).map
    (fun c => ⟨2, some c, (s.unitOf c).val⟩)

/-- R151 item 3: tap offset + preview is less than the line length less one. -/
def checkTaps (s : State) : Option CheckFailure :=
  (s.enabledCars.find? (fun c =>
    !decide ((s.carProfile c).tapOffset + (s.carProfile c).preview + 1 < s.profile.lineLength))).map
    (fun c => ⟨3, some c, (s.carProfile c).tapOffset + (s.carProfile c).preview⟩)

/-- The intake table holds an entry of a role. -/
def State.hasRole (s : State) (r : Role) : Bool :=
  s.intake.toList.any (fun slot => slot.entry.any (fun e => e.role = r))

/-- R151 item 4: a SENSOR_P, a SENSOR_Q and an ODOMETRY entry; the first role missing. -/
def checkRoles (s : State) : Option CheckFailure :=
  ([Role.sensorP, Role.sensorQ, Role.odometry].find? (fun r => !s.hasRole r)).map
    (fun r => ⟨4, none, r.code⟩)

/-- R151 item 5: every enabled position that is not FAILED has a status age below the hold count
and a last unit state of READY. -/
def checkUnitsReady (s : State) : Option CheckFailure :=
  (s.enabledCars.find? (fun c =>
    decide ((s.channel c).state ≠ .failed) &&
      !(decide ((s.channel c).age < s.profile.holdCount) &&
        decide ((s.channel c).lastState = some .ready)))).map
    (fun c => ⟨5, some c, (s.channel c).age * 256 + unitStateCode (s.channel c).lastState⟩)

/-- R151: the five items in order, the first that fails. -/
def leaveCheck (s : State) : Option CheckFailure :=
  (checkEnabled s).or ((checkUnits s).or ((checkTaps s).or ((checkRoles s).or (checkUnitsReady s))))

/-- R151, R156: a change refused by the check: SAFE_CHECK report, and SAFE_CHECK reply with the same
fields. -/
def refuseLeaving (target : OpState) (f : CheckFailure) (s : State) : Reply × State :=
  (⟨.safeCheck, be 1 target.code ++ be 1 f.item ++ be 1 (carCode f.position) ++ be 2 f.detail⟩,
    offerReport (.safeCheck target f.item f.position f.detail) s)

/-- R149: a change that is made: OK, its STATE report offered before the reply. -/
def changed (before : OpState) (s : State) : Reply × State :=
  (.bare .ok, offerState before .request s)

/-- R149 to R154: Set State for a target. -/
def setTarget (target : OpState) (s : State) : Reply × State :=
  match s.executor.opState, target with
  | .safe, .safe => done s
  | .standby, .standby => done s
  | .active, .active => done s
  | .standby, .safe => changed .standby (changeToSafe s)
  | .active, .safe => changed .active (changeToSafe s)
  | .standby, .active => changed .standby (changeToActive s)
  | .active, .standby => changed .active (changeToStandby s)
  | .safe, .standby =>
    match leaveCheck s with
    | some f => refuseLeaving .standby f s
    | none => changed .safe (setOpState .standby s)
  | .safe, .active =>
    match leaveCheck s with
    | some f => refuseLeaving .active f s
    | none => changed .safe (changeToActive s)

/-- R149: an undefined target is refused with FORMAT. -/
def actSetState (p : List Byte) (s : State) : Reply × State :=
  match readOpState (field p 0 1) with
  | none => refuse .format s
  | some target => setTarget target s

/-! ## Warm Restart -/

/-- R158, R16: the OK reply stands in the fore-bound queue alone: both queues are emptied but for it,
and a COMMAND frame waiting at the arbiter is discarded. A free transmitter begins the reply at
once. -/
def restartQueues (r : Request) (s : State) : State :=
  s.setPorts { Ports.foreKick { s.ports with
      reservation := false, aftQueue := [], waiting := none,
      foreQueue := [replyFrame r (.bare .ok) s] } with
    foreSeq := s.ports.foreSeq + 1 }

/-- R34: the odometry unit as after a cold reset; the speed of 0 is a speed update. -/
def restartOdometry (s : State) : State := setSpeed 0 (s.setOdo .reset)

/-- R52: the sensor monitor as after a cold reset. -/
def restartSensor (s : State) : State := s.setSensor .reset

/-- R129: the last computations absent. -/
def restartDemand (s : State) : State :=
  s.setDemand { s.demand with last := Vector.replicate 12 none }

/-- R92: the car regime records at regime 0, LIMITED, waiting none, and the marker-loss condition
clear. -/
def restartMarker (s : State) : State :=
  s.setMarker { s.marker with cars := Vector.replicate 12 .reset, loss := false }

/-- R158: the restart at every block. The STATE report and the reports of the answers to the line
clear come in an open order. -/
def restartBlocks (s : State) : State :=
  let before := s.executor.opState
  let s1 := restartDemand (restartSensor (restartOdometry (forCars restartCar (setOpState .safe s))))
  let own := if before = .safe then none
    else some (.state before .safe .warmRestart s1.channelStates)
  restartMarker (lineClear own s1)

/-- R158: the reply placed, then the restart. A request whose standing is denied or whose payload
length does not fit is answered like any other (R172). -/
def serveWarmRestart (s : State) : State :=
  match takeRequest (some .warmRestart) s with
  | none => s
  | some (r, t) =>
    if !r.accepted then placeReply r (.bare .denied) t
    else if !lengthFits .warmRestart r.payload then placeReply r (.bare .format) t
    else restartBlocks (restartQueues r t)

/-! ## Set Line Profile -/

/-- The nineteen bytes of Set Line Profile (section 12.3). -/
def readLineProfile (p : List Byte) : LineProfile :=
  { lineLength := field p 0 2, commandPeriod := field p 2 1, vOn := field p 3 2,
    hysteresis := field p 5 1, threshold := field p 6 2, heldLimit := field p 8 1,
    attentionTimeout := field p 9 2, holdCount := field p 11 1, failCount := field p 12 1,
    trackingLimit := field p 13 2, trackingCount := field p 15 1, captureLength := field p 16 2,
    reportDestination := byteAt p 18 }

/-- A multiple of 16, from 16 to the line length less 16 (R161, section 9.6). -/
def captureLengthFits (n len : Nat) : Bool := n % 16 = 0 && 16 ≤ n && n + 16 ≤ len

/-- The ranges of section 9.6. -/
def LineProfile.inRange (l : LineProfile) : Bool :=
  (l.lineLength = 1024 || l.lineLength = 2048 || l.lineLength = 4096) &&
  (l.commandPeriod = 5 || l.commandPeriod = 10 || l.commandPeriod = 20) &&
  l.vOn ≤ 400 && l.hysteresis ≤ 40 && l.threshold ≤ 16380 &&
  (1 ≤ l.heldLimit && l.heldLimit ≤ 32) &&
  (50 ≤ l.attentionTimeout && l.attentionTimeout ≤ 2000) &&
  (2 ≤ l.holdCount && l.holdCount ≤ 15) &&
  (10 ≤ l.failCount && l.failCount ≤ 100) &&
  l.trackingLimit ≤ 1000 && (1 ≤ l.trackingCount && l.trackingCount ≤ 50) &&
  captureLengthFits l.captureLength l.lineLength

/-- R157, R55: every field takes its written value; a different line length takes effect together
with a line clear. -/
def writeProfile (l : LineProfile) (s : State) : State :=
  if l.lineLength = s.profile.lineLength then s.setProfile l
  else lineClear none (s.setProfile l)

/-- R157. -/
def actSetLineProfile (p : List Byte) (s : State) : Reply × State :=
  if s.executor.opState ≠ .safe then refuse .wrongState s
  else if !(readLineProfile p).inRange then refuse .range s
  else done (writeProfile (readLineProfile p) s)

end Sys2Proof.Machine
end

