-- ==== Sys2Proof/Machine/CaptureRequests.lean ====
section
/-! DEFINITION. The capture requests (Chapter 10). -/

namespace Sys2Proof.Machine

/-- R161 test 4: an ABSOLUTE start cell is at or above the clear mark, greater than the newest closed
cell less the line length plus 16, and at or below the newest closed cell. -/
def State.startFits (s : State) (x : Int) : Bool :=
  decide ((s.line.clearMark : Int) ≤ x) &&
  decide (s.line.newest - (s.profile.lineLength : Int) + 16 < x) && decide (x ≤ s.line.newest)

/-- The OK reply of Capture Start: the start cell and the end cell. -/
def captureStarted (s : State) : Reply × State :=
  (⟨.ok, beInt 6 s.capture.start ++ beInt 6 s.capture.stop⟩, s)

/-- R161. In RELATIVE mode the start cell field is not read (R177). -/
def actCaptureStart (p : List Byte) (s : State) : Reply × State :=
  let n := field p 1 2
  let x := fieldS p 3 6
  match readCapMode (field p 0 1) with
  | none => refuse .format s
  | some mode =>
    if !s.capture.state.accepts then refuse .busy s
    else if !captureLengthFits n s.profile.lineLength then refuse .range s
    else match mode with
      | .relative => captureStarted (beginRelative .request none none n s)
      | .absolute =>
        if !s.startFits x then refuse .range s
        else captureStarted
          (beginCapture .absolute .request none none x (min (x + n) s.line.inputCell) s)

/-- R163: the tap reads of one Capture Read: `n` cells from `cell` upward. -/
def readCells (s : State) : Nat → Int → List CellRecord
  | 0, _ => []
  | n + 1, cell => s.tapRead cell :: readCells s n (cell + 1)

/-- R163: a cell record as delivered: value, quality, sample count. -/
def CellRecord.bytes (r : CellRecord) : List Byte :=
  beInt 2 r.value ++ be 1 r.quality.code ++ be 1 r.samples

/-- R163: the OK reply of a read, the record standing as after it. -/
def captureReply (cells : List CellRecord) (s : State) : Reply × State :=
  (⟨.ok, be 1 s.capture.state.code ++ beInt 6 s.capture.cursor ++ beInt 6 s.capture.stop ++
      be 1 cells.length ++ cells.flatMap CellRecord.bytes⟩, s)

/-- R163: how many cells a read delivers: the lesser of 8 and the end cell less the read cursor. -/
def toDeliver (c : Capture) : Nat := min 8 (c.stop - c.cursor).toNat

/-- R163: the delivery of a read in READY that is not overtaken. -/
def deliverCells (s : State) : Reply × State :=
  let n := toDeliver s.capture
  let cells := readCells s n s.capture.cursor
  let cursor := s.capture.cursor + n
  captureReply cells (s.setCapture { s.capture with
    cursor := cursor, state := if s.capture.stop ≤ cursor then .done else .ready })

/-- R163, R164. -/
def actCaptureRead (_p : List Byte) (s : State) : Reply × State :=
  match s.capture.state with
  | .idle => refuse .nothingPending s
  | .done => captureReply [] s
  | .overtaken => refuse .overtaken s
  | .ready => if s.overtakenNow then refuse .overtaken (overtakingTest s) else deliverCells s

/-- R165. -/
def actCaptureRelease (_p : List Byte) (s : State) : Reply × State :=
  done (s.setCapture { s.capture with state := .idle })

end Sys2Proof.Machine
end

