-- ==== Sys2Proof/Machine/CarRequests.lean ====
section
/-! DEFINITION. The requests about cars (Chapter 8): Set Car Profile, Set Car Order, Clear Car. -/

namespace Sys2Proof.Machine

/-! ## Set Car Profile -/

/-- The fourteen bytes of Set Car Profile after the position (section 12.3), its enabled field
read. -/
def readCarProfile (p : List Byte) (enabled : Bool) : CarProfile :=
  { enabled := enabled, tapOffset := field p 2 2, preview := field p 4 1, gain := field p 5 2,
    fullLimit := field p 7 2, limitedLimit := field p 9 2, rateStep := field p 11 1,
    weight := field p 12 2 }

/-- R139 test 3: every field in its range, and the tap offset below the line length less one. -/
def CarProfile.inRange (x : CarProfile) (len : Nat) : Bool :=
  x.tapOffset ≤ 4095 && x.preview ≤ 63 && x.gain ≤ 4095 && x.fullLimit ≤ 1000 &&
  x.limitedLimit ≤ x.fullLimit && (1 ≤ x.rateStep && x.rateStep ≤ 50) && x.weight ≤ 256 &&
  decide (x.tapOffset + 1 < len)

/-- R139 test 5: another enabled position maps to the same unit. -/
def State.unitTaken (s : State) (c : Car) : Bool :=
  allCars.any (fun d => decide (d ≠ c) && s.enabled d && s.unitOf d = s.unitOf c)

/-- A car profile written. -/
def writeCarProfile (c : Car) (x : CarProfile) (s : State) : State :=
  s.setDemand { s.demand with profiles := s.demand.profiles.set c x }

/-- R140, R80: an OFF car is enabled: PARKED, its status fields none, age and run 0, its regime
record at reset. -/
def enableCar (c : Car) (s : State) : State :=
  let s1 := enterStill c .parked s
  let s2 := setChannel c { s1.channel c with
    lastState := none, lastActual := none, lastEcho := none, age := 0, run := 0 } s1
  setRegime c .reset s2

/-- R140, R90: a PARKED or FAILED car is disabled: OFF, and what follows at the marker unit. -/
def disableCar (c : Car) (s : State) : State := markerDisable c (enterStill c .off s)

/-- R140: the profile replaced, with its effect on the channel state. -/
def applyCarProfile (c : Car) (x : CarProfile) (s : State) : State :=
  let t := writeCarProfile c x s
  if (s.channel c).state = .off then (if x.enabled then enableCar c t else t)
  else if x.enabled then t else disableCar c t

/-- R139, R140. -/
def actSetCarProfile (p : List Byte) (s : State) : Reply × State :=
  match readFin 12 (field p 0 1) with
  | none => refuse .range s
  | some c =>
    match readBool (field p 1 1) with
    | none => refuse .format s
    | some enabled =>
      let x := readCarProfile p enabled
      if !x.inRange s.profile.lineLength then refuse .range s
      else if (s.channel c).state.moving then refuse .notParked s
      else if s.executor.opState ≠ .safe ∧ (s.channel c).state = .off ∧ enabled = true ∧
          s.unitTaken c = true then refuse .format s
      else done (applyCarProfile c x s)

/-! ## Set Car Order -/

/-- The twelve unit ids of Set Car Order; `none` where one is above 11 (R142). -/
def readOrder (p : List Byte) : Option (Vector UnitId 12) :=
  if allCars.all (fun c => field p c.val 1 < 12) then
    some (tabulate (fun c => Fin.ofNat 12 (field p c.val 1)))
  else none

/-- R142: the map gives the same unit id to two positions that are both enabled. -/
def State.orderClash (s : State) (m : Vector UnitId 12) : Bool :=
  s.enabledCars.any (fun c => s.enabledCars.any (fun d => decide (d < c) && m[d] = m[c]))

/-- R142: a position whose unit id changes loses its status fields. -/
def forgetStatus (c : Car) (s : State) : State :=
  setChannel c { s.channel c with
    lastState := none, lastActual := none, lastEcho := none, age := 0, run := 0 } s

/-- R142: the map replaced. -/
def writeOrder (m : Vector UnitId 12) (s : State) : State :=
  let t := forCars (fun c t => if m[c] = s.unitOf c then t else forgetStatus c t) s
  t.setCars { t.cars with order := m }

/-- R142. -/
def actSetCarOrder (p : List Byte) (s : State) : Reply × State :=
  if s.executor.opState ≠ .safe then refuse .wrongState s
  else match readOrder p with
    | none => refuse .range s
    | some m => if s.orderClash m then refuse .format s else done (writeOrder m s)

/-! ## Clear Car -/

/-- R138: a FAILED car becomes PARKED, its tracking run 0. -/
def clearCar (c : Car) (s : State) : State :=
  let t := enterStill c .parked s
  setChannel c { t.channel c with run := 0 } t

/-- R138. -/
def actClearCar (p : List Byte) (s : State) : Reply × State :=
  match readFin 12 (field p 0 1) with
  | none => refuse .range s
  | some c =>
    if s.executor.opState = .active then refuse .wrongState s
    else if (s.channel c).state ≠ .failed then refuse .nothingPending s
    else done (clearCar c s)

end Sys2Proof.Machine
end

