-- ==== Sys2Proof/Machine/ReadRequests.lean ====
section
/-! DEFINITION. The requests that read: Read Status, Read Car, Read Markers, Read Bank, and the
answer to an unknown request. -/

namespace Sys2Proof.Machine

/-- The nine counters in the order of R174. -/
def Counters.bytes (c : Counters) : List Byte :=
  be 2 c.foreCheck ++ be 2 c.aftCheck ++ be 2 c.seqGaps ++ be 2 c.aftDrops ++ be 2 c.foreDrops ++
    be 2 c.reportDrops ++ be 2 c.requestDrops ++ be 2 c.commandSkips ++ be 2 c.capturesMissed

/-- R174: the reply payload of Read Status (section 12.2). -/
def statusPayload (s : State) : List Byte :=
  be 1 s.executor.opState.code ++ be 1 s.sensor.pairState.code ++ be 1 s.sensor.chP.state.code ++
    be 1 s.sensor.chQ.state.code ++ be 1 s.odo.state.code ++ be 2 s.odo.speed ++
    be 6 s.line.inputCell ++ be 6 s.line.clearMark ++ be 1 (boolCode s.demand.gateOpen) ++
    be 1 (boolCode s.marker.loss) ++ be 1 (boolCode s.odo.uncertain) ++
    be 1 s.route.a.state.code ++ be 1 s.route.b.state.code ++ be 1 s.marker.queue.length ++
    be 2 (serialCode (s.marker.attention.map (·.serial))) ++ be 1 s.capture.state.code ++
    s.counters.bytes

/-- R174. -/
def actReadStatus (_p : List Byte) (s : State) : Reply × State := (⟨.ok, statusPayload s⟩, s)

/-- R128, section 12.2: the last computation, or the indication that it is absent and zeros. -/
def computationBytes (r : Option Computation) : List Byte :=
  match r with
  | some x =>
    be 1 1 ++ be 1 x.quality.code ++ be 1 (boolCode x.routeKnown) ++ beInt 2 x.estimate ++
      be 1 x.authority.code ++ beInt 2 x.clamped ++ beInt 2 x.angle
  | none => be 10 0

/-- R146: the reply payload of Read Car (section 12.2). -/
def carPayload (c : Car) (s : State) : List Byte :=
  let x := s.channel c
  let g := s.regime c
  let e := s.cars.lastHanded[s.unitOf c]
  be 1 (s.unitOf c).val ++ be 1 x.state.code ++ beInt 2 x.thetaPrev ++
    be 1 (unitStateCode x.lastState) ++ beInt 2 (x.lastActual.getD 0) ++
    be 2 (x.lastEcho.getD 0).toNat ++ be 1 x.age ++ be 1 x.run ++ be 1 g.regime.val ++
    be 1 g.authority.code ++ be 2 (serialCode g.waiting) ++ computationBytes s.demand.last[c] ++
    be 1 e.mode.code ++ beInt 2 e.angle

/-- R146. -/
def actReadCar (p : List Byte) (s : State) : Reply × State :=
  match readFin 12 (field p 0 1) with
  | none => refuse .range s
  | some c => (⟨.ok, carPayload c s⟩, s)

/-- The pending set with bit n set for each logical position n that it holds (section 12.2). -/
def pendingCode (cs : List Car) : Nat :=
  (allCars.map (fun c => if c ∈ cs then 2 ^ c.val else 0)).sum

/-- One marker record of Read Markers (section 12.2); the bank of a TRACK marker is sent as 0. -/
def Marker.bytes (m : Marker) : List Byte :=
  be 2 m.serial ++ be 1 m.kind.code ++ be 1 m.cls.val ++ [m.param] ++ be 6 m.cell ++
    be 1 (orZero Bank.code m.bank) ++ be 2 (pendingCode m.pending)

/-- R91: up to three markers from the given index toward the tail. -/
def markersFrom (q : List Marker) (i : Nat) : List Marker := (q.drop i).take 3

/-- R91. -/
def actReadMarkers (p : List Byte) (s : State) : Reply × State :=
  let i := field p 0 1
  if 31 < i then refuse .range s
  else
    let ms := markersFrom s.marker.queue i
    (⟨.ok, be 1 s.marker.queue.length ++ be 1 ms.length ++ ms.flatMap Marker.bytes⟩, s)

/-- An anchor's presence, class and parameter (sections 12.2 and 12.3). -/
def anchorBytes (a : Option (MarkerClass × Byte)) : List Byte :=
  match a with
  | some (cls, param) => be 1 1 ++ be 1 cls.val ++ [param]
  | none => be 3 0

/-- A header's presence and fields (section 12.2); an absent header is sent as zeros. -/
def headerBytes (h : Option SectionHeader) : List Byte :=
  match h with
  | some x =>
    be 1 1 ++ be 2 x.sectionId ++ be 2 x.length ++ anchorBytes x.anchor ++ be 1 x.endClass.val
  | none => be 9 0

/-- Whether a start cell is set, and the start cell (section 12.2). -/
def startCellBytes (x : Option Nat) : List Byte :=
  match x with
  | some n => be 1 1 ++ be 6 n
  | none => be 7 0

/-- R99: the reply payload of Read Bank (section 12.2). -/
def bankPayload (r : BankRecord) : List Byte :=
  be 1 r.state.code ++ headerBytes r.header ++ startCellBytes r.startCell ++ be 2 r.points.length

/-- R99. -/
def actReadBank (p : List Byte) (s : State) : Reply × State :=
  match readBankCode (field p 0 1) with
  | none => refuse .format s
  | some bank => (⟨.ok, bankPayload (s.route.bank bank)⟩, s)

/-- R172 cases 1 to 3: a taken request that names no request is answered DENIED on its standing,
FORMAT where its envelope is too short, UNKNOWN else. -/
def unknownReply (r : Request) : Reply :=
  if !r.accepted then .bare .denied
  else if r.envelope.length < 3 then .bare .format
  else .bare .unknown

end Sys2Proof.Machine
end

