-- ==== Sys2Proof/Machine/RouteRequests.lean ====
section
/-! DEFINITION. The route requests (section 6.2). A bank field with an undefined value is refused with
FORMAT before any other test. -/

namespace Sys2Proof.Machine

/-- A request that names a bank in its first byte. -/
def onBank (p : List Byte) (s : State) (act : Bank → Reply × State) : Reply × State :=
  match readBankCode (field p 0 1) with
  | none => refuse .format s
  | some bank => act bank

/-! ## Route Open -/

/-- R95 test 2: the header of Route Open, an undefined anchor-presence field giving FORMAT, a length
of 0, an end class above 15 or a present anchor's class above 15 giving RANGE. -/
def readHeader (p : List Byte) : Except ReplyCode SectionHeader :=
  match readBool (field p 5 1) with
  | none => .error .format
  | some present =>
    if field p 3 2 = 0 then .error .range
    else match readFin 16 (field p 8 1) with
      | none => .error .range
      | some endClass =>
        if present then
          match readFin 16 (field p 6 1) with
          | none => .error .range
          | some cls => .ok { sectionId := field p 1 2, length := field p 3 2,
                              anchor := some (cls, byteAt p 7), endClass := endClass }
        else .ok { sectionId := field p 1 2, length := field p 3 2, anchor := none,
                   endClass := endClass }

/-- R95: the bank takes the header, its start cell none, its list empty, and is LOADING. -/
def openBank (bank : Bank) (h : SectionHeader) (s : State) : State :=
  setBank bank { state := .loading, header := some h, startCell := none, points := [] } s

/-- R95. -/
def actRouteOpen (p : List Byte) (s : State) : Reply × State :=
  onBank p s (fun bank =>
    if (s.route.bank bank).state ≠ .free then refuse .busy s
    else match readHeader p with
      | .error code => refuse code s
      | .ok h => done (openBank bank h s))

/-! ## Route Points -/

/-- The encoding of a point: offset, K, and a word of permit and C (section 12.3). -/
def Point.bytes (x : Point) : List Byte :=
  be 2 x.offset ++ beInt 2 x.k ++ be 2 (x.permit.code * 4096 + (x.c % 4096).toNat)

/-- The 12-bit signed C of a point's word (section 12.3). -/
def wordC (w : Nat) : Int :=
  if w % 4096 < 2048 then ((w % 4096 : Nat) : Int) else ((w % 4096 : Nat) : Int) - 4096

/-- The point at an offset of a payload; `none` where its permit is undefined (R96 test 4). -/
def readPoint (p : List Byte) (off : Nat) : Option Point :=
  let w := field p (off + 4) 2
  (readAuthority (w / 4096)).map (fun permit =>
    { offset := field p off 2, k := fieldS p (off + 2) 2, c := wordC w, permit := permit })

/-- The points of a Route Points payload, `n` of them from an offset. -/
def readPoints (p : List Byte) : Nat → Nat → Option (List Point)
  | 0, _ => some []
  | n + 1, off =>
    match readPoint p off, readPoints p n (off + 6) with
    | some x, some xs => some (x :: xs)
    | _, _ => none

/-- R96: points written in order at an index and those that follow it. -/
def writePoints (old : List Point) (first : Nat) (new : List Point) : List Point :=
  old.take first ++ new ++ old.drop (first + new.length)

/-- R96: C lies from −1024 to +1023. -/
def Point.inRange (x : Point) : Bool := -1024 ≤ x.c && x.c ≤ 1023

/-- R96. -/
def actRoutePoints (p : List Byte) (s : State) : Reply × State :=
  onBank p s (fun bank =>
    let r := s.route.bank bank
    let first := field p 1 1
    let count := field p 2 1
    if r.state ≠ .loading then refuse .wrongState s
    else if r.points.length < first then refuse .range s
    else if 256 < first + count then refuse .range s
    else match readPoints p count 3 with
      | none => refuse .format s
      | some xs =>
        if xs.all Point.inRange then
          done (setBank bank { r with points := writePoints r.points first xs } s)
        else refuse .range s)

/-! ## Route Close -/

/-- R97: each offset is greater than the offset of the point before it. -/
def rising : List Point → Bool
  | [] => true
  | [_] => true
  | x :: y :: rest => decide (x.offset < y.offset) && rising (y :: rest)

/-- R97 test 2: the point checks. -/
def pointsSound (points : List Point) (length : Nat) : Bool :=
  (match points.head?, points.getLast? with
    | some x, some y => decide (x.offset = 0) && decide (y.offset < length)
    | _, _ => false) && rising points

/-- R97 test 3: the check of R2 over the points, each in its 6-byte encoding. -/
def sectionCheck (points : List Point) : Word16 := frameCheck (points.flatMap Point.bytes)

/-- R97. -/
def actRouteClose (p : List Byte) (s : State) : Reply × State :=
  onBank p s (fun bank =>
    let r := s.route.bank bank
    if r.state ≠ .loading then refuse .wrongState s
    else if !pointsSound r.points r.length then refuse .format s
    else if sectionCheck r.points ≠ BitVec.ofNat 16 (field p 1 2) then
      (⟨.checkFailed, be 2 (sectionCheck r.points).toNat⟩, s)
    else done (setBankState bank .ready s))

/-! ## Route Discard -/

/-- R98. -/
def actRouteDiscard (p : List Byte) (s : State) : Reply × State :=
  onBank p s (fun bank =>
    match (s.route.bank bank).state with
    | .loading => done (setBankState bank .free s)
    | .ready => done (setBankState bank .free s)
    | .inUse => refuse .busy s
    | .draining => refuse .busy s
    | .free => refuse .nothingPending s)

end Sys2Proof.Machine
end

