-- ==== Sys2Proof/Machine/Management.lean ====
section
/-! DEFINITION. The meanings of the management requests: each is the step in which the request
executor takes that request from the head of the request queue, executes it whole and places its
reply (R171). -/

namespace Sys2Proof.Machine

/-- READ_STATUS. -/
def execReadStatus (s : State) : Answer := .next (serve .readStatus actReadStatus s)

/-- READ_CAR. -/
def execReadCar (s : State) : Answer := .next (serve .readCar actReadCar s)

/-- READ_MARKERS. -/
def execReadMarkers (s : State) : Answer := .next (serve .readMarkers actReadMarkers s)

/-- READ_BANK. -/
def execReadBank (s : State) : Answer := .next (serve .readBank actReadBank s)

/-- SET_STATE. -/
def execSetState (s : State) : Answer := .next (serve .setState actSetState s)

/-- WARM_RESTART. -/
def execWarmRestart (s : State) : Answer := .next (serveWarmRestart s)

/-- SET_LINE_PROFILE. -/
def execSetLineProfile (s : State) : Answer := .next (serve .setLineProfile actSetLineProfile s)

/-- SET_CAR_PROFILE. -/
def execSetCarProfile (s : State) : Answer := .next (serve .setCarProfile actSetCarProfile s)

/-- SET_CAR_ORDER. -/
def execSetCarOrder (s : State) : Answer := .next (serve .setCarOrder actSetCarOrder s)

/-- CLEAR_CAR. -/
def execClearCar (s : State) : Answer := .next (serve .clearCar actClearCar s)

/-- SET_INTAKE_ENTRY. -/
def execSetIntakeEntry (s : State) : Answer := .next (serve .setIntakeEntry actSetIntakeEntry s)

/-- SET_REGIME_ENTRY. -/
def execSetRegimeEntry (s : State) : Answer := .next (serve .setRegimeEntry actSetRegimeEntry s)

/-- ATTENTION_RELEASE. -/
def execAttentionRelease (s : State) : Answer :=
  .next (serve .attentionRelease actAttentionRelease s)

/-- CLEAR_MARKER_LOSS. -/
def execClearMarkerLoss (s : State) : Answer := .next (serve .clearMarkerLoss actClearMarkerLoss s)

/-- ROUTE_OPEN. -/
def execRouteOpen (s : State) : Answer := .next (serve .routeOpen actRouteOpen s)

/-- ROUTE_POINTS. -/
def execRoutePoints (s : State) : Answer := .next (serve .routePoints actRoutePoints s)

/-- ROUTE_CLOSE. -/
def execRouteClose (s : State) : Answer := .next (serve .routeClose actRouteClose s)

/-- ROUTE_DISCARD. -/
def execRouteDiscard (s : State) : Answer := .next (serve .routeDiscard actRouteDiscard s)

/-- CAPTURE_START. -/
def execCaptureStart (s : State) : Answer := .next (serve .captureStart actCaptureStart s)

/-- CAPTURE_READ. -/
def execCaptureRead (s : State) : Answer := .next (serve .captureRead actCaptureRead s)

/-- CAPTURE_RELEASE. -/
def execCaptureRelease (s : State) : Answer := .next (serve .captureRelease actCaptureRelease s)

/-- UNKNOWN_REQUEST: a taken request that names no request of the index. -/
def serveUnknown (s : State) : State :=
  match takeRequest none s with
  | none => s
  | some (r, t) => placeReply r (unknownReply r) t

/-- UNKNOWN_REQUEST. -/
def execUnknownRequest (s : State) : Answer := .next (serveUnknown s)

end Sys2Proof.Machine
end

