-- ==== Sys2Proof/Machine/Dispatch.lean ====
section
/-! DEFINITION. One arm per command, each one direct call of its meaning. -/

namespace Sys2Proof.Machine

def exec (i : Instr) (s : State) : Host.Outcome State Fault Refusal :=
  match i with
  | .coldResetAssert => Sys2Proof.Machine.execColdResetAssert s
  | .coldResetRelease straps => Sys2Proof.Machine.execColdResetRelease straps s
  | .portFrameReceived port run => Sys2Proof.Machine.execPortFrameReceived port run s
  | .aftTransmitEnd => Sys2Proof.Machine.execAftTransmitEnd s
  | .foreTransmitEnd => Sys2Proof.Machine.execForeTransmitEnd s
  | .odometryTimeout => Sys2Proof.Machine.execOdometryTimeout s
  | .channelTimeout channel => Sys2Proof.Machine.execChannelTimeout channel s
  | .commandTimerExpiry => Sys2Proof.Machine.execCommandTimerExpiry s
  | .attentionTimerExpiry => Sys2Proof.Machine.execAttentionTimerExpiry s
  | .readStatus => Sys2Proof.Machine.execReadStatus s
  | .readCar => Sys2Proof.Machine.execReadCar s
  | .readMarkers => Sys2Proof.Machine.execReadMarkers s
  | .readBank => Sys2Proof.Machine.execReadBank s
  | .setState => Sys2Proof.Machine.execSetState s
  | .warmRestart => Sys2Proof.Machine.execWarmRestart s
  | .setLineProfile => Sys2Proof.Machine.execSetLineProfile s
  | .setCarProfile => Sys2Proof.Machine.execSetCarProfile s
  | .setCarOrder => Sys2Proof.Machine.execSetCarOrder s
  | .clearCar => Sys2Proof.Machine.execClearCar s
  | .setIntakeEntry => Sys2Proof.Machine.execSetIntakeEntry s
  | .setRegimeEntry => Sys2Proof.Machine.execSetRegimeEntry s
  | .attentionRelease => Sys2Proof.Machine.execAttentionRelease s
  | .clearMarkerLoss => Sys2Proof.Machine.execClearMarkerLoss s
  | .routeOpen => Sys2Proof.Machine.execRouteOpen s
  | .routePoints => Sys2Proof.Machine.execRoutePoints s
  | .routeClose => Sys2Proof.Machine.execRouteClose s
  | .routeDiscard => Sys2Proof.Machine.execRouteDiscard s
  | .captureStart => Sys2Proof.Machine.execCaptureStart s
  | .captureRead => Sys2Proof.Machine.execCaptureRead s
  | .captureRelease => Sys2Proof.Machine.execCaptureRelease s
  | .unknownRequest => Sys2Proof.Machine.execUnknownRequest s

end Sys2Proof.Machine
end

