-- ==== Sys2Proof/Safety.lean ====
section
/-! DEFINITION. What statements about the part say, in the manual's words: a request that the
executor can take, the state that its reply leaves, and the conditions that every step keeps. -/

namespace Sys2Proof.Machine

/-! ## A request at the head of the queue -/

/-- The head of the request queue is `r`, and the executor can take it (R12, R171). -/
abbrev Heads (s : State) (r : Request) (rest : List Request) : Prop :=
  s.executor.queue = r :: rest ∧ s.canTake = true

/-- The head of the request queue can be taken and reaches its owning block (R172 case 5): it is
accepted, names `name` and has the length that its code must have. -/
abbrev Serves (s : State) (name : RequestName) (r : Request) (rest : List Request) : Prop :=
  Heads s r rest ∧ r.name = some name ∧ r.accepted = true ∧ lengthFits name r.payload = true

/-- R171: the head request has left the queue, and the reply reservation is made. -/
def State.taken (s : State) (rest : List Request) : State :=
  (s.setExecutor { s.executor with queue := rest }).setPorts { s.ports with reservation := true }

/-- R171, R12, R3: the head request has left the queue and its reply stands at the tail of the
fore-bound queue, from where a free transmitter has begun it at once; the fore transmit sequence is
one higher, and nothing else has changed. -/
def State.answered (s : State) (r : Request) (rest : List Request) (a : Reply) : State :=
  (s.setExecutor { s.executor with queue := rest }).setPorts
    { s.ports.foreAdmit (replyFrame r a s) with foreSeq := s.ports.foreSeq + 1 }

/-- The command whose step takes a request of this name from the head of the queue. -/
def RequestName.command : RequestName → Instr
  | .readStatus => .readStatus
  | .readCar => .readCar
  | .readMarkers => .readMarkers
  | .readBank => .readBank
  | .setState => .setState
  | .warmRestart => .warmRestart
  | .setLineProfile => .setLineProfile
  | .setCarProfile => .setCarProfile
  | .setCarOrder => .setCarOrder
  | .clearCar => .clearCar
  | .setIntakeEntry => .setIntakeEntry
  | .setRegimeEntry => .setRegimeEntry
  | .attentionRelease => .attentionRelease
  | .clearMarkerLoss => .clearMarkerLoss
  | .routeOpen => .routeOpen
  | .routePoints => .routePoints
  | .routeClose => .routeClose
  | .routeDiscard => .routeDiscard
  | .captureStart => .captureStart
  | .captureRead => .captureRead
  | .captureRelease => .captureRelease

/-! ## Frames received -/

/-- A run of bytes is the frame `f`, which case 4 of R6 gives to the entry `e` at index `i`. -/
abbrev Matches (s : State) (run : List Byte) (f : Frame) (i : Fin 16) (e : IntakeEntry) : Prop :=
  parseFrame run = some f ∧ f.cls ∉ [clsRequest, clsCommand, clsReply, clsReport] ∧
    matching s.intake f.source f.cls = some (i, e)

/-- A run of bytes is the frame `f`, which falls under case 2, 3 or 5 of R6. -/
abbrev PassesThrough (s : State) (run : List Byte) (f : Frame) : Prop :=
  parseFrame run = some f ∧
    (f.cls ∈ [clsCommand, clsReply, clsReport] ∨
     f.cls = clsRequest ∧ f.dest ≠ s.nodeAddress ∨
     f.cls ≠ clsRequest ∧ matching s.intake f.source f.cls = none)

/-! ## Cars -/

/-- The angle that a unit was last handed: 0 for PARK (R145). -/
def CmdEntry.lastAngle (e : CmdEntry) : Int := if e.mode = .park then 0 else e.angle

/-- R145, first: while a COMMAND frame waits at the arbiter, the entry of unit `u` in it and the
unit's last handed entry become PARK with angle 0. -/
def State.sentPark (u : UnitId) (s : State) : State :=
  let park : CmdEntry := { mode := .park, angle := 0 }
  (s.setPorts { s.ports with
    waiting := s.ports.waiting.map (fun w => { w with entries := w.entries.set u park }) }).setCars
    { s.cars with lastHanded := if s.ports.waiting.isSome then s.cars.lastHanded.set u park
                                else s.cars.lastHanded }

/-- R137, R145: car `c` takes the channel record `y`. Where that changes its channel state, a COMMAND
frame that waits follows an entry to PARKED, OFF or FAILED, and then a CAR report is offered with the
position, the unit, the states before and after, the cause, the status age, the last unit state, the
last actual angle and θ_prev after the change. -/
def State.carChanged (c : Car) (y : CarChannel) (cause : CarCause) (s : State) : State :=
  let before := (s.channel c).state
  let t := s.setCars { s.cars with channels := s.cars.channels.set c y }
  if y.state = before then t
  else offerReport (.car c (s.unitOf c) before y.state cause y.age y.lastState y.lastActual y.thetaPrev)
    (if y.state = .parked ∨ y.state = .off ∨ y.state = .failed then t.sentPark (s.unitOf c) else t)

/-! ## What every step keeps -/

/-- R53: the clear mark never exceeds the input cell number, which stays a cell number; and the
cell store has its canonical form. -/
abbrev LineSound (s : State) : Prop :=
  s.line.clearMark ≤ s.line.inputCell ∧ s.line.inputCell ≤ maxCell ∧ s.line.store.wf

/-- R10, R12, R170, R14, R174: the queues within their places, no reservation between commands, and
every counter within its range. -/
abbrev PortsSound (s : State) : Prop :=
  s.ports.foreQueue.length ≤ 16 ∧ s.ports.aftQueue.length ≤ 8 ∧ s.ports.reservation = false ∧
    s.executor.queue.length ≤ 4 ∧
    ∀ n ∈ [s.counters.foreCheck, s.counters.aftCheck, s.counters.seqGaps, s.counters.aftDrops,
      s.counters.foreDrops, s.counters.reportDrops, s.counters.requestDrops,
      s.counters.commandSkips, s.counters.capturesMissed], n ≤ 65535

/-- R4: each entry holds the class of its role, no two entries share source and class, and the roles
SENSOR_P, SENSOR_Q and ODOMETRY stand at most once. -/
abbrev IntakeSound (s : State) : Prop :=
  ∀ i : Fin 16, ∀ e ∈ s.intake[i].entry, e.cls = e.role.cls ∧
    ∀ j : Fin 16, ∀ x ∈ s.intake[j].entry, j ≠ i →
      ¬(x.source = e.source ∧ x.cls = e.cls) ∧ (e.role.single = true → x.role ≠ e.role)

/-- Sections 7.2 and 9.6: the profiles hold values of their ranges (a tap offset is held to the line
length when it is written, and again on leaving SAFE). -/
abbrev ProfilesSound (s : State) : Prop :=
  s.profile.inRange = true ∧
    ∀ c : Car, (s.carProfile c).inRange ((s.carProfile c).tapOffset + 2) = true

/-- R18 to R30: the odometry record. -/
abbrev OdometrySound (s : State) : Prop :=
  (s.odo.state = .tracking ↔ s.odo.timeout.isSome = true) ∧ s.odo.remainder < 50 ∧
    s.odo.debt ≤ 65535 ∧ s.odo.speed ≤ 400 ∧ s.odo.recovery < 200 ∧
    (s.odo.uncertain = false → s.odo.recovery = 0)

/-- R37 to R40: one channel record. -/
abbrev ChannelSound (r : ChannelRecord) : Prop :=
  (r.state = .absent → r = .reset) ∧
    (r.state = .settling →
      1 ≤ r.settle ∧ r.settle < 32 ∧ r.timeout = some 25 ∧ r.paired = false) ∧
    (r.state = .good → r.settle = 32 ∧ r.timeout = some 25)

/-- R42 to R47: the channel records and the pair record. -/
abbrev SensorSound (s : State) : Prop :=
  ChannelSound s.sensor.chP ∧ ChannelSound s.sensor.chQ ∧ s.sensor.window.length ≤ 4 ∧
    s.sensor.disagreeRun < 3 ∧ s.sensor.agreeRun < 16 ∧
    (s.sensor.window ≠ [] → s.sensor.chP.state = .good ∧ s.sensor.chQ.state = .good) ∧
    (s.sensor.pairState = .none → s.sensor.chP.state ≠ .good ∧ s.sensor.chQ.state ≠ .good) ∧
    (s.sensor.pairState = .singleP → s.sensor.chP.state = .good) ∧
    (s.sensor.pairState = .singleQ → s.sensor.chQ.state = .good) ∧
    (s.sensor.pairState = .dual ∨ s.sensor.pairState = .disagree → s.sensor.window.length = 4)

/-- R74, R75: the cells of the queued markers never decrease from head to tail, at most 30 are TRACK
markers, each has a pending set that is not empty, and only enabled cars stand in one. -/
abbrev QueueSound (s : State) : Prop :=
  s.marker.queue.Pairwise (fun x y => x.cell ≤ y.cell) ∧ s.trackCount ≤ 30 ∧
    ∀ m ∈ s.marker.queue, m.pending ≠ [] ∧ ∀ c ∈ m.pending, s.enabled c = true

/-- R73, R74, R83, R84: the queued markers carry consecutive serials that end at the serial counter,
at most 32 of them; a car named in a marker's pending set is named in those of all later ones; each
DRAINING bank has its one SECTION_END marker; a waiting car waits on the oldest marker that holds it;
and the car that the attention record names waits on the record's marker. -/
abbrev SerialsSound (s : State) : Prop :=
  (1 ≤ s.marker.serialCounter ∧ s.marker.serialCounter ≤ 65535) ∧
    (s.marker.queue.map (·.serial) ++ [s.marker.serialCounter]).IsChain
      (fun x y => y = nextSerial x) ∧
    (∀ m ∈ s.marker.queue, 1 ≤ m.serial ∧ m.serial ≤ 65535) ∧
    s.marker.queue.Pairwise (fun x y => ∀ c ∈ x.pending, c ∈ y.pending) ∧
    (∀ m ∈ s.marker.queue, m.kind = .sectionEnd ↔ m.bank.isSome = true) ∧
    (∀ bank ∈ [Bank.a, Bank.b], (s.marker.queue.filter (fun m => m.bank = some bank)).length =
      if (s.route.bank bank).state = .draining then 1 else 0) ∧
    (∀ c : Car, ∀ n ∈ (s.regime c).waiting,
      ((s.marker.queue.find? (fun m => m.pending.contains c)).map (·.serial)) = some n) ∧
    (∀ hold ∈ s.marker.attention, (s.regime hold.car).waiting = some hold.serial)

/-- R93 to R104: a section that lies on the line has a header and a start cell, a checked section has
passed the checks of Route Close, at most one bank is IN_USE, and no cell lies inside the sections of
two banks that are both IN_USE or DRAINING (R101). -/
abbrev BanksSound (s : State) : Prop :=
  (∀ bank ∈ [Bank.a, Bank.b],
    ((s.route.bank bank).state.inSection = true → (s.route.bank bank).startCell.isSome = true) ∧
    ((s.route.bank bank).state ≠ .free → (s.route.bank bank).header.isSome = true) ∧
    ((s.route.bank bank).state = .ready ∨ (s.route.bank bank).state.inSection = true →
      pointsSound (s.route.bank bank).points (s.route.bank bank).length = true)) ∧
    ¬(s.route.a.state = .inUse ∧ s.route.b.state = .inUse) ∧
    (s.route.a.state.inSection = true → s.route.b.state.inSection = true →
      s.route.a.endCell ≤ s.route.b.startNat ∨ s.route.b.endCell ≤ s.route.a.startNat) ∧
    s.book.notices = []

/-- R115, R130, R141, R144, R145, R148, R153, R154: the cars. A car is OFF exactly while its profile
is disabled; only FOLLOWING, CENTRING and HOLD cars have an angle; none of these states is met in
SAFE, FOLLOWING is met in ACTIVE alone and CENTRING in STANDBY alone; a car held for its unit's PARK
entry is PARKED in ACTIVE; every angle lies within its car's full limit. -/
abbrev CarsSound (s : State) : Prop :=
  ∀ c : Car,
    ((s.channel c).state = .off ↔ s.enabled c = false) ∧
    ((s.channel c).state.moving = false → (s.channel c).thetaPrev = 0) ∧
    (s.executor.opState = .safe → (s.channel c).state.moving = false) ∧
    ((s.channel c).state = .following → s.executor.opState = .active) ∧
    ((s.channel c).state = .centring → s.executor.opState = .standby) ∧
    ((s.channel c).parkHeld = true →
      (s.channel c).state = .parked ∧ s.executor.opState = .active) ∧
    (s.channel c).thetaPrev.natAbs ≤ (s.carProfile c).fullLimit

/-- R141, R144, R145: the units. Outside SAFE no two enabled positions share a unit; a waiting COMMAND
frame carries the last handed entries, all of them PARK with angle 0 in SAFE; a PARK entry has angle
0; and a car that is not at rest stands at the angle its unit was last handed. -/
abbrev HandedSound (s : State) : Prop :=
  (s.executor.opState ≠ .safe → ∀ c d : Car, s.enabled c = true → s.enabled d = true →
    s.unitOf c = s.unitOf d → c = d) ∧
  (∀ w ∈ s.ports.waiting, w.entries = s.cars.lastHanded) ∧
  (∀ w ∈ s.ports.waiting, s.executor.opState = .safe → w.entries = Vector.replicate 12 .parked) ∧
  (∀ u : UnitId, s.cars.lastHanded[u].mode = .park → s.cars.lastHanded[u].angle = 0) ∧
  (∀ u : UnitId, s.cars.lastHanded[u].angle.natAbs ≤ 1000) ∧
  (∀ c : Car, (s.channel c).state.moving = true →
    s.cars.lastHanded[s.unitOf c].lastAngle = (s.channel c).thetaPrev)

/-- R160 to R163: the read cursor lies between the start and the end cell, below the end cell while
READY, and the stretch holds closed cells alone. -/
abbrev CaptureSound (s : State) : Prop :=
  s.capture.start ≤ s.capture.cursor ∧ s.capture.cursor ≤ s.capture.stop ∧
    s.capture.stop ≤ s.line.inputCell ∧
    (s.capture.state = .ready → s.capture.cursor < s.capture.stop)

end Sys2Proof.Machine
end

