-- ==== Sys2Proof/Certificates/Slice0/Obligations.lean ====
section
/-! DEFINITION. The statements about the part, for the provers: what each command does, what the
shared operations do, and the conditions that every step keeps. -/

section Statements

open Sys2Proof Sys2Proof.Machine

/-! ## The step and the cold-reset pin -/

/-- The step of the part: the command at the front of the queue, run on the part with the queue's
rest (the queue of waiting commands is the model's choice, notes/assumptions/1.md and 11.md). -/
def Obligations.StepRunsFrontCommand : Prop :=
  ∀ (c : Instr) (rest : List Instr) (s : State), s.pending = c :: rest →
    step s = exec c (s.setPending rest)

/-- R159 with R3, R4, R15, R34, R52, R67, R78, R80, R92, R94, R129, R147, R148, R160 and the
cold-reset columns of sections 7.2 and 9.6. The assertion of the cold-reset pin loses the frames that
were being sent and changes nothing else; while the pin is held asserted the part sends no frame and
takes none, and no command but those of the pin changes anything. That the other commands change
nothing while the pin is held is read from R159 (notes/assumptions/8.md). Its release leaves every
block at its cold-reset values, from every state. The queue of waiting commands and the model's count
of open choices go on (notes/assumptions/8.md). -/
def Obligations.ColdResetPinStopsAndSetsThePart : Prop :=
  (∀ s : State, exec .coldResetAssert s =
    .next ((s.setPins { s.pins with coldReset := true }).setPorts
      { s.ports with aftTx := none, foreTx := none })) ∧
  (∀ (c : Instr) (s : State), s.pins.coldReset = true → c ≠ .coldResetAssert →
    (∀ straps, c ≠ .coldResetRelease straps) → exec c s = .next s) ∧
  ∀ (straps : Byte) (s : State), ∃ t, exec (.coldResetRelease straps) s = .next t ∧
    t.pins = { coldReset := false, straps := straps } ∧
    t.nodeAddress = (if straps = 255 then 254 else straps) ∧
    t.ports =
      { aftTx := none, foreTx := none, aftSeq := 0, foreSeq := 0, aftQueue := [], foreQueue := [],
        waiting := none, reservation := false } ∧
    t.counters =
      { foreCheck := 0, aftCheck := 0, seqGaps := 0, aftDrops := 0, foreDrops := 0,
        reportDrops := 0, requestDrops := 0, commandSkips := 0, capturesMissed := 0 } ∧
    (∀ i : Fin 16, t.intake[i] = { entry := none, memory := none }) ∧
    t.profile =
      { lineLength := 4096, commandPeriod := 10, vOn := 78, hysteresis := 8, threshold := 200,
        heldLimit := 8, attentionTimeout := 400, holdCount := 5, failCount := 20,
        trackingLimit := 150, trackingCount := 10, captureLength := 512,
        reportDestination := 255 } ∧
    (t.odo.state = .unset ∧ t.odo.remainder = 0 ∧ t.odo.debt = 0 ∧ t.odo.speed = 0 ∧
      t.odo.timeout = none ∧ t.odo.uncertain = false ∧ t.odo.recovery = 0) ∧
    (∀ x : Channel, t.sensor.chan x =
      { state := .absent, settle := 0, latest := none, paired := false, timeout := none }) ∧
    (t.sensor.pairState = .none ∧ t.sensor.window = [] ∧ t.sensor.disagreeRun = 0 ∧
      t.sensor.agreeRun = 0) ∧
    (t.line.inputCell = 0 ∧ t.line.clearMark = 0 ∧ t.line.heldRun = 0 ∧
      t.line.acc = { sum := 0, count := 0, worst := none } ∧
      ∀ n : Int, (t.tapRead n).quality = .void) ∧
    (t.marker.queue = [] ∧ t.marker.serialCounter = 1 ∧ t.marker.loss = false ∧
      t.marker.attention = none ∧ t.marker.lastTimedOut = none) ∧
    (∀ (r : Regime) (cls : MarkerClass), t.entry r cls =
      { next := r, authority := .limited, attention := false, capture := false }) ∧
    (∀ c : Car, t.regime c = { regime := 0, authority := .limited, waiting := none }) ∧
    (∀ bank : Bank, t.route.bank bank =
      { state := .free, header := none, startCell := none, points := [] }) ∧
    (t.demand.timer = some 10 ∧ t.demand.gateOpen = false) ∧
    (∀ c : Car, t.demand.last[c] = none ∧ t.carProfile c =
      { enabled := false, tapOffset := 0, preview := 0, gain := 0, fullLimit := 0,
        limitedLimit := 0, rateStep := 4, weight := 0 }) ∧
    (∀ c : Car, t.channel c =
      { state := .off, thetaPrev := 0, lastState := none, lastActual := none, lastEcho := none,
        age := 0, run := 0, parkHeld := false }) ∧
    (∀ u : Fin 12, t.unitOf u = u ∧ t.cars.lastHanded[u] = { mode := .park, angle := 0 }) ∧
    t.cars.commandSeq = 0 ∧
    (t.capture.state = .idle ∧ t.capture.car = none ∧ t.capture.serial = none ∧
      t.capture.start = 0 ∧ t.capture.stop = 0 ∧ t.capture.cursor = 0) ∧
    (t.executor.opState = .safe ∧ t.executor.queue = []) ∧
    t.pending = s.pending ∧ t.book.choices = s.book.choices

/-! ## Frames and ports -/

/-- R1, R2, R6, R10 to R14: the runs that no block takes. A run of fewer than 8 bytes, of another
byte count than its length field gives, with a length field above 56 or with a frame check that does
not agree is discarded, and the port's check error counter is all that changes. A frame under case 2,
3 or 5 of R6 is offered, as it stands, to the queue of its direction of travel, and admitted or dropped
and counted there. R10 to R13: what an admission does. An admitted frame joins the tail; at a free
transmitter the waiting COMMAND frame, at the aft port, or else the head of the queue begins. R3, R12,
R175: an offered report. With a free place beyond the reservation, a REPORT frame to the report
destination, with the node address, flag bit 0, the fore transmit sequence and its own check, is admitted
and the sequence rises by one; with none the report drop counter rises by one and nothing else changes.
R176, R177, sections 12.1 and 12.4: the payload of each kind of report, and that of a COMMAND frame. A
last actual angle of none in a CAR report is sent as 0, the model's reading (notes/assumptions/24.md). -/
def Obligations.FramesDiscardedOrForwarded : Prop :=
  let offered := fun (port : Port) (f : Frame) (s : State) => match port with
    | .fore =>
      if s.ports.aftQueue.length < 8 then s.setPorts (s.ports.aftAdmit s.nodeAddress f)
      else s.setCounters { s.counters with aftDrops := bump s.counters.aftDrops }
    | .aft =>
      if 3 ≤ s.ports.foreFree then s.setPorts (s.ports.foreAdmit f)
      else s.setCounters { s.counters with foreDrops := bump s.counters.foreDrops }
  (∀ (port : Port) (run : List Byte) (s : State), s.pins.coldReset = false →
    (run.length < 8 ∨ run.length ≠ 8 + (run.getD 4 0).toNat ∨ 56 < (run.getD 4 0).toNat ∨
      (frameCheck (run.take (run.length - 2))).toNat ≠
        (run.getD (run.length - 2) 0).toNat * 256 + (run.getD (run.length - 1) 0).toNat) →
    exec (.portFrameReceived port run) s = .next (s.setCounters (match port with
      | .fore => { s.counters with foreCheck := bump s.counters.foreCheck }
      | .aft => { s.counters with aftCheck := bump s.counters.aftCheck }))) ∧
  (∀ (port : Port) (run : List Byte) (f : Frame) (s : State), s.pins.coldReset = false →
    PassesThrough s run f → exec (.portFrameReceived port run) s = .next (offered port f s)) ∧
  (∀ (port : Port) (f : Frame) (s : State), forward port f s = offered port f s) ∧
  (∀ n : Nat, bump n = if n < 65535 then n + 1 else n) ∧
  (∀ (p : Ports) (f : Frame) (node : Byte),
    p.foreFree = 16 - (p.foreQueue.length + (if p.reservation = true then 1 else 0)) ∧
    p.foreAdmit f = (match p.foreTx, p.foreQueue with
      | some _, queue => { p with foreQueue := queue ++ [f] }
      | none, [] => { p with foreTx := some f }
      | none, x :: rest => { p with foreTx := some x, foreQueue := rest ++ [f] }) ∧
    p.aftAdmit node f = (match p.aftTx, p.waiting, p.aftQueue with
      | some _, _, queue => { p with aftQueue := queue ++ [f] }
      | none, some w, queue =>
        { p with aftTx := some (w.frame node), waiting := none, aftQueue := queue ++ [f] }
      | none, none, [] => { p with aftTx := some f }
      | none, none, x :: rest => { p with aftTx := some x, aftQueue := rest ++ [f] })) ∧
  (∀ (node dest cls seq : Byte) (payload : List Byte), madeFrame node dest cls seq payload =
    { dest := dest, source := node, cls := cls, seq := seq, flags := 1, payload := payload,
      check := frameCheck
        ([dest, node, cls, seq, BitVec.ofNat 8 payload.length, 1] ++ payload) }) ∧
  (∀ (w : CommandFrame) (node : Byte), w.frame node = madeFrame node 255 0x20 w.seq
    (be 2 w.commandSeq.toNat ++
      w.entries.toList.flatMap (fun e => be 1 e.mode.code ++ beInt 2 e.angle))) ∧
  (∀ (r : Report) (s : State),
    (1 ≤ s.ports.foreFree → offerReport r s = s.setPorts
      { s.ports.foreAdmit (madeFrame s.nodeAddress s.profile.reportDestination 0x32
          s.ports.foreSeq r.payload) with
        foreSeq := s.ports.foreSeq + 1 }) ∧
    (s.ports.foreFree = 0 → offerReport r s =
      s.setCounters { s.counters with reportDrops := bump s.counters.reportDrops })) ∧
  ∀ r : Report, r.payload = match r with
    | .state before after cause channels =>
      be 1 1 ++ be 1 before.code ++ be 1 after.code ++ be 1 cause.code ++
        channels.flatMap (fun x => be 1 x.code)
    | .safeCheck target item position detail =>
      be 1 2 ++ be 1 target.code ++ be 1 item ++
        be 1 (match position with | some c => c.val | none => 255) ++ be 2 detail
    | .sensor before after cause channel p q windowSum =>
      be 1 3 ++ be 1 before.code ++ be 1 after.code ++ be 1 cause.code ++
        be 1 (if channel = some .q then 1 else 0) ++ be 1 p.code ++ be 1 q.code ++ be 2 windowSum
    | .odometry event state inputCell jump =>
      be 1 4 ++ be 1 event.code ++ be 1 state.code ++ be 6 inputCell ++
        be 1 ((jump.map (fun x => x.1.code)).getD 0) ++ beInt 4 ((jump.map (·.2)).getD 0)
    | .marker reason cls param stamp cell tail loss count =>
      be 1 5 ++ be 1 reason.code ++ be 1 cls.val ++ be 1 param.toNat ++ be 4 stamp.toNat ++
        beInt 6 (cell.getD 0) ++ beInt 6 (tail.getD 0) ++ be 1 (boolCode loss) ++ be 1 count
    | .attention hold =>
      be 1 6 ++ be 2 hold.serial ++ be 1 hold.car.val ++ be 1 hold.cls.val ++
        be 1 hold.param.toNat ++ be 1 hold.regimeBefore.val ++ be 1 hold.copy.next.val ++
        be 1 hold.copy.authority.code ++ be 1 (boolCode hold.copy.attention) ++
        be 1 (boolCode hold.copy.capture) ++ be 2 hold.timer
    | .attentionEnd reason serial c regime authority =>
      be 1 7 ++ be 1 reason.code ++ be 2 serial ++ be 1 c.val ++ be 1 regime.val ++
        be 1 authority.code
    | .route event bank sectionId startCell endCell cause anchor a b newest =>
      be 1 8 ++ be 1 event.code ++ be 1 bank.code ++ be 2 sectionId ++ be 6 startCell ++
        be 6 endCell ++ be 1 ((cause.map (·.code)).getD 0) ++
        be 1 ((anchor.map (fun x => x.1.val)).getD 0) ++
        be 1 ((anchor.map (fun x => x.2.toNat)).getD 0) ++ be 1 a.code ++ be 1 b.code ++
        beInt 6 newest
    | .car position unit before after cause age lastState lastActual theta =>
      be 1 9 ++ be 1 position.val ++ be 1 unit.val ++ be 1 before.code ++ be 1 after.code ++
        be 1 cause.code ++ be 1 age ++ be 1 (unitStateCode lastState) ++
        beInt 2 (lastActual.getD 0) ++ beInt 2 theta
    | .capture event source c serial concerned before newest missed =>
      be 1 10 ++ be 1 event.code ++ be 1 source.code ++
        be 1 (match c with | some x => x.val | none => 255) ++ be 2 (serial.getD 0) ++
        be 1 ((concerned.map (·.mode.code)).getD 0) ++ beInt 6 ((concerned.map (·.start)).getD 0) ++
        beInt 6 ((concerned.map (·.stop)).getD 0) ++ beInt 6 ((concerned.map (·.cursor)).getD 0) ++
        be 1 ((before.map (·.code)).getD 0) ++ beInt 6 newest ++ be 2 missed

/-- R1, R2, section 12.1: the receiver takes every frame with its own check and at most 56 payload
bytes for what it is, and what it takes is, byte for byte, the frame's own run: six header bytes, the
payload and the check. The check begins at all ones and takes each byte, most significant bit first,
through the division by x^16 + x^12 + x^5 + 1. -/
def Obligations.FrameRoundTrip : Prop :=
  (frameCheck [] = 0xFFFF ∧ ∀ (bs : List Byte) (b : Byte), frameCheck (bs ++ [b]) =
    (List.range 8).foldl (fun (r : Word16) _ => if r.msb then (r <<< 1) ^^^ 0x1021 else r <<< 1)
      (frameCheck bs ^^^ (b.zeroExtend 16 <<< 8))) ∧
  (∀ f : Frame,
    f.covered = [f.dest, f.source, f.cls, f.seq, BitVec.ofNat 8 f.payload.length, f.flags] ++
      f.payload ∧
    f.bytes = f.covered ++ [f.check.extractLsb' 8 8, f.check.extractLsb' 0 8]) ∧
  (∀ f : Frame, f.payload.length ≤ 56 → f.check = frameCheck f.covered →
    parseFrame f.bytes = some f) ∧
  ∀ (run : List Byte) (f : Frame), parseFrame run = some f →
    f.bytes = run ∧ f.payload.length ≤ 56 ∧ f.check = frameCheck f.covered

/-- R1, R2: a frame of which one byte, and no other, has been changed on the lane is discarded. -/
def Obligations.ChangedByteRejected : Prop :=
  ∀ (run : List Byte) (f : Frame) (k : Nat) (b : Byte), parseFrame run = some f →
    k < run.length → run.getD k 0 ≠ b → parseFrame (run.set k b) = none

/-- R6 case 4, R7, R8: a frame that matches an entry. A duplicate changes nothing. Any other enters
the sequence memory, counts a gap where numbers were skipped, and is handed to the block of the
entry's role; where the entry says so a copy is offered for forwarding. A copy that travels aft meets
no report of the block; of a copy that travels fore and the block's reports either may be judged
first (R12; notes/assumptions/3.md). The entry that matches is the first, and by R4 the only one, whose
source and class are the frame's. -/
def Obligations.MatchedFrameHandled : Prop :=
  (∀ (t : Vector IntakeSlot 16) (source cls : Byte),
    let fits := fun (j : Fin 16) => ∃ x ∈ t[j].entry, x.source = source ∧ x.cls = cls
    (matching t source cls = none ↔ ∀ j, ¬fits j) ∧
    ∀ (i : Fin 16) (e : IntakeEntry), matching t source cls = some (i, e) ↔
      t[i].entry = some e ∧ fits i ∧ ∀ j, j < i → ¬fits j) ∧
  ∀ (port : Port) (run : List Byte) (f : Frame) (i : Fin 16) (e : IntakeEntry) (s : State),
    s.pins.coldReset = false → Matches s run f i e →
    (s.intake[i].memory = some f.seq → exec (.portFrameReceived port run) s = .next s) ∧
    (s.intake[i].memory ≠ some f.seq →
      let u := (s.setIntake (s.intake.set i { s.intake[i] with memory := some f.seq })).setCounters
        (if ∃ m ∈ s.intake[i].memory, f.seq ≠ m + 1 then
          { s.counters with seqGaps := bump s.counters.seqGaps } else s.counters)
      let v := u.setBook { u.book with choices := u.book.choices + 1 }
      ∃ t, exec (.portFrameReceived port run) s = .next t ∧
        (e.forward = false → t = deliver e.role f.payload u) ∧
        (e.forward = true → port = .fore → t = forward .fore f (deliver e.role f.payload u)) ∧
        (e.forward = true → port = .aft →
          t = forward .aft f (deliver e.role f.payload u) ∨
          t = forward .aft f (deliver e.role f.payload v) ∨
          t = deliver e.role f.payload (forward .aft f v)))

/-- R9, R170: the standing of a request addressed to the part, and its joining the tail of the
request queue, or its being discarded and counted where 4 requests wait. -/
def Obligations.RequestStanding : Prop :=
  ∀ (port : Port) (run : List Byte) (f : Frame) (s : State), s.pins.coldReset = false →
    parseFrame run = some f → f.cls = clsRequest → f.dest = s.nodeAddress →
    let joins := fun (accepted : Bool) (u : State) =>
      if u.executor.queue.length < 4 then
        u.setExecutor
          { u.executor with queue := u.executor.queue ++ [⟨f.payload, f.source, accepted⟩] }
      else u.setCounters { u.counters with requestDrops := bump u.counters.requestDrops }
    ((∀ (j : Fin 16), ∀ x ∈ s.intake[j].entry, x.role ≠ .manager) →
      exec (.portFrameReceived port run) s = .next (joins true s)) ∧
    ((∃ (j : Fin 16), ∃ x ∈ s.intake[j].entry, x.role = .manager) →
      (∀ (j : Fin 16), ∀ x ∈ s.intake[j].entry, x.role = .manager → x.source ≠ f.source) →
      exec (.portFrameReceived port run) s = .next (joins false s)) ∧
    ∀ (i : Fin 16), (∃ x ∈ s.intake[i].entry, x.role = .manager ∧ x.source = f.source) →
      (∀ (j : Fin 16), ∀ x ∈ s.intake[j].entry, x.role = .manager ∧ x.source = f.source →
        j = i) →
      (s.intake[i].memory = some f.seq → exec (.portFrameReceived port run) s = .next s) ∧
      (s.intake[i].memory ≠ some f.seq → exec (.portFrameReceived port run) s = .next (joins true
        ((s.setIntake (s.intake.set i { s.intake[i] with memory := some f.seq })).setCounters
          (if ∃ m ∈ s.intake[i].memory, f.seq ≠ m + 1 then
            { s.counters with seqGaps := bump s.counters.seqGaps } else s.counters))))

/-- R18, R35, R70, R131, R178: the judging of the payload that an accepted frame hands to a block. A
wrong length, an undefined or FAULT health, a class above 15, an undefined unit state or a unit id above
11 makes the block ignore the frame, which then changes nothing (a SENSOR frame with health FAULT is
taken); any other is taken with the fields that section 12.1 lays out, an acceleration clamped to 12
bits, and a status by every enabled position mapped to its unit, in rising order. -/
def Obligations.PayloadsJudged : Prop :=
  ∀ (p : List Byte) (s : State),
    (∀ (role : Role) (x : Channel), role = .sensorP ∧ x = .p ∨ role = .sensorQ ∧ x = .q →
      (p.length ≠ 5 ∨ 1 < field p 4 1 → deliver role p s = s) ∧
      (p.length = 5 → field p 4 1 = 1 → deliver role p s = takeFault x s) ∧
      (p.length = 5 → field p 4 1 = 0 → deliver role p s = takeSample x
        { stamp := BitVec.ofNat 16 (field p 0 2),
          value := max (-2048) (min 2047 (fieldS p 2 2)) } s)) ∧
    (p.length ≠ 7 ∨ 1 < field p 6 1 → deliver .odometry p s = s) ∧
    (∀ slipped : Bool, p.length = 7 → field p 6 1 = boolCode slipped →
      deliver .odometry p s =
        takeOdometry (BitVec.ofNat 32 (field p 0 4)) (field p 4 2) slipped s) ∧
    (p.length ≠ 6 ∨ 15 < field p 0 1 → deliver .markerReader p s = s) ∧
    (∀ cls : MarkerClass, p.length = 6 → field p 0 1 = cls.val → deliver .markerReader p s =
      offerMarker cls (BitVec.ofNat 8 (field p 1 1)) (BitVec.ofNat 32 (field p 2 4)) s) ∧
    (p.length ≠ 6 ∨ 2 < field p 1 1 ∨ 11 < field p 0 1 → deliver .unitStatus p s = s) ∧
    ∀ (unit : UnitId) (u : UnitState), p.length = 6 → field p 0 1 = unit.val →
      field p 1 1 = unitStateCode (some u) → deliver .unitStatus p s =
        (allCars.filter (fun c => s.enabled c = true ∧ s.unitOf c = unit)).foldl
          (fun t c => takeStatus c u (fieldS p 2 2) (BitVec.ofNat 16 (field p 4 2)) t) s

/-- R11, R13: at the end of a frame the aft transmitter begins the waiting COMMAND frame, else the
head of the aft-bound queue; the fore transmitter begins the head of the fore-bound queue. An idle
transmitter ends no frame. That the end of an idle transmitter changes nothing is the model's
choice (notes/assumptions/2.md). -/
def Obligations.TransmitEndBeginsNext : Prop :=
  ∀ s : State, s.pins.coldReset = false →
    exec .aftTransmitEnd s = .next (s.setPorts
      (match s.ports.aftTx, s.ports.waiting, s.ports.aftQueue with
        | none, _, _ => s.ports
        | some _, some w, _ =>
          { s.ports with aftTx := some (w.frame s.nodeAddress), waiting := none }
        | some _, none, f :: rest => { s.ports with aftTx := some f, aftQueue := rest }
        | some _, none, [] => { s.ports with aftTx := none })) ∧
    exec .foreTransmitEnd s = .next (s.setPorts
      (match s.ports.foreTx, s.ports.foreQueue with
        | none, _ => s.ports
        | some _, f :: rest => { s.ports with foreTx := some f, foreQueue := rest }
        | some _, [] => { s.ports with foreTx := none }))

/-! ## Odometry -/

/-- R26, R27: a forward step pays the debt first; what remains is new ground, which the whole cells
and the remainder account for to the centimetre unless more than 64 cells clamp it. -/
def Obligations.ForwardStepAccounts : Prop :=
  ∀ delta debt remainder : Nat, remainder < 50 →
    let f := forwardStep delta debt remainder
    let ground := delta - debt
    f.debt = debt - delta ∧ f.remainder < 50 ∧ f.cells ≤ 64 ∧
    (f.clamped = true ↔ 64 * 50 + 50 ≤ remainder + ground) ∧
    (f.clamped = false → 50 * f.cells + f.remainder = remainder + ground) ∧
    (f.clamped = true → f.cells = 64 ∧ f.remainder = 0)

/-- R20, R22 to R30, R116: a frame taken, OK or SLIP, in UNSET, in TRACKING and in LOST. The health is
handled last: SLIP sets the position-uncertain condition, with its UNCERTAIN report where it was clear;
OK in TRACKING adds the cells of the frame's own step while the condition is set, with its CERTAIN
report at 200. That these reports follow the answers of the blocks to the same frame's advance or line
clear is the model's choice (notes/assumptions/4.md), and so is counting the cells of an advance that
R57 cuts short uncut (notes/assumptions/13.md). -/
def Obligations.OdometryFrameTaken : Prop :=
  ∀ (d : Distance) (speed : Nat) (slipped : Bool) (s : State),
    let gated := fun (u : State) => u.setDemand
      { u.demand with
        gateOpen := if u.profile.vOn ≤ min speed 400 then true
          else if ((min speed 400 : Nat) : Int) < (u.profile.vOn : Int) - u.profile.hysteresis
          then false else u.demand.gateOpen }
    let based := fun (u : State) => gated (u.setOdo
      { u.odo with
        state := .tracking, lastDistance := d, remainder := 0, debt := 0,
        speed := min speed 400, timeout := some 100 })
    let moved := gated (s.setOdo
      { s.odo with lastDistance := d, speed := min speed 400, timeout := some 100 })
    let slips := fun (u : State) =>
      let marked := u.setOdo { u.odo with uncertain := true, recovery := 0 }
      if u.odo.uncertain = true then marked
      else offerReport (.odometry .uncertain u.odo.state u.line.inputCell none) marked
    let recovers := fun (k : Nat) (u : State) =>
      if u.odo.uncertain = false then u
      else if u.odo.recovery + k < 200 then
        u.setOdo { u.odo with recovery := u.odo.recovery + k }
      else offerReport (.odometry .certain u.odo.state u.line.inputCell none)
        (u.setOdo { u.odo with uncertain := false, recovery := 0 })
    let first := fun (u : State) => if slipped = true then slips u else u
    let health := fun (k : Nat) (u : State) => if slipped = true then slips u else recovers k u
    let delta := (d - s.odo.lastDistance).toInt
    (s.odo.state = .unset → takeOdometry d speed slipped s = first (based s)) ∧
    (s.odo.state = .lost → takeOdometry d speed slipped s = first
      (based (lineClear (some (.odometry .restored .tracking s.line.inputCell none)) s))) ∧
    (s.odo.state = .tracking →
      (delta < -3200 → takeOdometry d speed slipped s = health 0
        (offerReport (.odometry .jump .tracking s.line.inputCell (some (.backward, delta)))
          (moved.setOdo { moved.odo with remainder := 0, debt := 0 }))) ∧
      (-3200 ≤ delta → delta < 0 → takeOdometry d speed slipped s = health 0
        (moved.setOdo { moved.odo with debt := min (s.odo.debt + (-delta).toNat) 65535 })) ∧
      (0 ≤ delta →
        let f := forwardStep delta.toNat s.odo.debt s.odo.remainder
        let stepped := moved.setOdo { moved.odo with debt := f.debt, remainder := f.remainder }
        takeOdometry d speed slipped s = health (if delta = 0 then 0 else f.cells)
          (if f.cells = 0 then stepped else
            advance f.cells (fun u => if f.clamped then
              some (.odometry .jump .tracking u.line.inputCell (some (.forward, delta))) else none)
              stepped)))

/-- R28, R29: a SLIP frame sets the position-uncertain condition with recovery count 0 in every
odometry state; while it is set, an OK frame in TRACKING adds the cells of its own advance, and at 200
the condition clears. Where R57 cuts that advance short at the largest cell number, the count adds the
cells as they were before the cut: the model's choice (notes/assumptions/13.md). -/
def Obligations.SlipAndRecovery : Prop :=
  ∀ (d : Distance) (speed : Nat) (s : State),
    ((takeOdometry d speed true s).odo.uncertain = true ∧
      (takeOdometry d speed true s).odo.recovery = 0) ∧
    (s.odo.state = .tracking → s.odo.uncertain = true →
      let delta := (d - s.odo.lastDistance).toInt
      let k := if delta ≤ 0 then 0
        else (forwardStep delta.toNat s.odo.debt s.odo.remainder).cells
      let t := takeOdometry d speed false s
      if 200 ≤ s.odo.recovery + k then t.odo.uncertain = false ∧ t.odo.recovery = 0
      else t.odo.uncertain = true ∧ t.odo.recovery = s.odo.recovery + k)

/-- R32: exactly when a stamp conversion gives a cell, and which; and exactly when it gives STALE. -/
def Obligations.StampConversion : Prop :=
  ∀ (stamp : Distance) (s : State),
    let back := max (s.odo.lastDistance - stamp).toInt 0
    (∀ n : Nat, convertStamp stamp s = .cell n ↔
      s.odo.state = .tracking ∧ back ≤ 3200 ∧
        (n : Int) = (s.line.inputCell : Int) - 1 - back / 50 ∧ s.line.clearMark ≤ n) ∧
    (convertStamp stamp s = .stale ↔ s.odo.state = .tracking ∧ 3200 < back)

/-! ## Sensor monitor -/

/-- R21, R30, R116: the expiry of the odometry timeout, which runs in TRACKING alone. R40, R44, R51:
the expiry of a running channel timeout. A channel that was not GOOD goes ABSENT; one that was GOOD also
empties the window, zeroes both runs and hands the pair state on, with a SENSOR report where the pair
state changes. That a stopped timeout does not expire is the model's choice (notes/assumptions/2.md). -/
def Obligations.SupervisionTimeoutsExpire : Prop :=
  (∀ s : State, s.pins.coldReset = false →
    (s.odo.state = .tracking → s.odo.timeout.isSome = true → exec .odometryTimeout s =
      .next (offerReport (.odometry .lost .lost s.line.inputCell none)
        ((s.setOdo { s.odo with state := .lost, speed := 0, timeout := none }).setDemand
          { s.demand with
            gateOpen := if s.profile.vOn = 0 then true
            else if s.profile.hysteresis < s.profile.vOn then false else s.demand.gateOpen }))) ∧
    (s.odo.state ≠ .tracking ∨ s.odo.timeout = none → exec .odometryTimeout s = .next s)) ∧
  ∀ (x : Channel) (s : State), s.pins.coldReset = false →
    let m := s.sensor
    let singleOf := fun (y : Channel) => match y with
      | .p => PairState.singleP
      | .q => PairState.singleQ
    let otherChannel := fun (y : Channel) => match y with
      | .p => Channel.q
      | .q => Channel.p
    let gone := m.setChan x
      { state := .absent, settle := 0, latest := none, paired := false, timeout := none }
    let left : PairState :=
      if m.pairState = singleOf x then
        if (m.chan (otherChannel x)).state = .good then singleOf (otherChannel x) else .none
      else if m.pairState = .dual ∨ m.pairState = .disagree then singleOf (otherChannel x)
      else m.pairState
    let lost : Sensor :=
      { gone with window := [], disagreeRun := 0, agreeRun := 0, pairState := left }
    ((m.chan x).timeout = none → exec (.channelTimeout x) s = .next s) ∧
    ((m.chan x).timeout.isSome = true → (m.chan x).state ≠ .good →
      exec (.channelTimeout x) s = .next (s.setSensor gone)) ∧
    ((m.chan x).timeout.isSome = true → (m.chan x).state = .good →
      exec (.channelTimeout x) s = .next (
        if left = m.pairState then s.setSensor lost
        else offerReport (.sensor m.pairState left .channelTimeout (some x) lost.chP.state
          lost.chQ.state 0) (s.setSensor lost)))

/-- R36 to R40, R42 to R44, R49 to R51, R56: a SENSOR frame of channel X taken. FAULT takes the channel
to ABSENT. OK takes an ABSENT channel to SETTLING and counts a SETTLING one up; neither gives a fused
sample. OK on a channel that is GOOD, or becomes GOOD with its 32nd sample, makes the pairing test: a
pair joins the window, where a full window is judged, and the pair state that this leaves decides which
fused sample, if any, is added to the open cell. Each change of pair state sends its SENSOR report. -/
def Obligations.SensorFrameTaken : Prop :=
  ∀ (x : Channel) (v : Sample) (s : State), SensorSound s →
    let m := s.sensor
    let singleOf := fun (y : Channel) => match y with
      | .p => PairState.singleP
      | .q => PairState.singleQ
    let otherChannel := fun (y : Channel) => match y with
      | .p => Channel.q
      | .q => Channel.p
    let own := m.chan x
    let other := m.chan (otherChannel x)
    let gone := m.setChan x
      { state := .absent, settle := 0, latest := none, paired := false, timeout := none }
    let left : PairState :=
      if m.pairState = singleOf x then
        if other.state = .good then singleOf (otherChannel x) else .none
      else if m.pairState = .dual ∨ m.pairState = .disagree then singleOf (otherChannel x)
      else m.pairState
    let lost : Sensor :=
      { gone with window := [], disagreeRun := 0, agreeRun := 0, pairState := left }
    (own.state = .absent → takeFault x s = s ∧ takeSample x v s = s.setSensor (m.setChan x
      { state := .settling, settle := 1, latest := some v, paired := false, timeout := some 25 })) ∧
    (own.state = .settling → takeFault x s = s.setSensor gone) ∧
    (own.state = .good → takeFault x s =
      if left = m.pairState then s.setSensor lost
      else offerReport (.sensor m.pairState left .channelFault (some x) lost.chP.state
        lost.chQ.state 0) (s.setSensor lost)) ∧
    (own.state = .settling → own.settle + 1 < 32 → takeSample x v s = s.setSensor (m.setChan x
      { state := .settling, settle := own.settle + 1, latest := some v, paired := false,
        timeout := some 25 })) ∧
    (own.state = .good ∨ own.state = .settling ∧ own.settle + 1 = 32 →
      let joined : PairState :=
        if own.state = .settling ∧ m.pairState = .none then singleOf x else m.pairState
      let stored := fun (paired : Bool) => m.setChan x
        { state := .good, settle := 32, latest := some v, paired := paired, timeout := some 25 }
      let heard := fun (n : Sensor) =>
        if joined = m.pairState then s.setSensor n
        else offerReport (.sensor m.pairState joined .channelGood (some x) n.chP.state n.chQ.state 0)
          (s.setSensor n)
      let fed := fun (value : Int) (q : SampleQuality) (u : State) =>
        if s.line.acc.count < 16777215 then
          u.setLine { s.line with
            acc :=
              { sum := s.line.acc.sum + value, count := s.line.acc.count + 1,
                worst := some
                  (if q = .single ∨ s.line.acc.worst = some .single then .single else .dual) } }
        else u
      ((∀ w ∈ other.latest, other.state = .good → other.paired = false → w.stamp ≠ v.stamp) →
        takeSample x v s =
          let u := heard { stored false with pairState := joined }
          if joined = singleOf x then fed v.value .single u else u) ∧
      ∀ w ∈ other.latest, other.state = .good → other.paired = false → w.stamp = v.stamp →
        let pair : Pair := match x with
          | .p => { p := v.value, q := w.value }
          | .q => { p := w.value, q := v.value }
        let window := (if m.window.length = 4 then m.window.drop 1 else m.window) ++ [pair]
        let sum := (window.map (fun z => (z.p - z.q).natAbs)).sum
        let n : Sensor :=
          { (stored true).setChan (otherChannel x) { other with paired := true } with
            pairState := joined, window := window }
        let judged := if window.length = 4 then n.judge s.profile.threshold sum else n
        takeSample x v s =
          let u := (heard n).setSensor judged
          let t := if judged.pairState = joined then u
            else offerReport (.sensor joined judged.pairState
              (if judged.pairState = .disagree then .disagree else .agree) none .good .good sum) u
          if judged.pairState = .dual then fed (nearest (pair.p + pair.q) 2) .dual t
          else if judged.pairState = singleOf x then fed v.value .single t else t)

/-- R45, R46, R47: the judging of full windows. While a channel joins, the first window in agreement
gives DUAL. From DUAL with run 0, windows in disagreement count up and the third in a row gives
DISAGREE, a window in agreement starting the count again. From DISAGREE with run 0, fewer than 16
windows in agreement only count, and the sixteenth in a row gives DUAL. -/
def Obligations.FullWindowsJudged : Prop :=
  ∀ (m : Sensor) (t : Nat),
    (m.pairState = .singleP ∨ m.pairState = .singleQ → ∀ d,
      (d ≤ t → m.judge t d = { m with pairState := .dual, disagreeRun := 0, agreeRun := 0 }) ∧
      (t < d → m.judge t d = m)) ∧
    (m.pairState = .dual → ∀ d₁ d₂ d₃ d, t < d₁ → t < d₂ → t < d₃ → d ≤ t →
      m.disagreeRun = 0 →
      m.judge t d = m ∧
      (m.judge t d₁).pairState = .dual ∧ ((m.judge t d₁).judge t d).disagreeRun = 0 ∧
      ((m.judge t d₁).judge t d₂).pairState = .dual ∧
      (((m.judge t d₁).judge t d₂).judge t d).disagreeRun = 0 ∧
      (((m.judge t d₁).judge t d₂).judge t d₃) =
        { m with pairState := .disagree, disagreeRun := 0, agreeRun := 0 }) ∧
    (m.pairState = .disagree → m.agreeRun = 0 → ∀ ds : List Nat, (∀ d ∈ ds, d ≤ t) →
      (ds.length < 16 → ds.foldl (fun n d => n.judge t d) m = { m with agreeRun := ds.length }) ∧
      (ds.length = 16 → ds.foldl (fun n d => n.judge t d) m =
        { m with pairState := .dual, disagreeRun := 0, agreeRun := 0 })) ∧
    (m.pairState = .disagree → ∀ d, t < d → m.judge t d = { m with agreeRun := 0 })

/-! ## History line -/

/-- R57 to R62: an advance of k cells, at most a line length. The open cell reads as R58 or R59 closes
it; the skipped cells above it carry its value as HELD for as long as the held-run count stays below
the limit and it is not VOID, and read VOID above that; every cell closed before, whose slot has not
been taken, reads as before; the new open cell begins empty; and the held-run count is 0 after a cell
with samples, and one higher for each HELD cell. R62: a cell below the clear mark, above the newest closed
cell or a line length below it reads VOID. R62, R65: after a line clear every cell reads VOID, and the
line keeps its input cell number and its store. -/
def Obligations.LineAdvancesAndClears : Prop :=
  (∀ (l : Line) (len limit : Nat) (pair : PairState) (k : Nat), l.store.wf →
    l.clearMark ≤ l.inputCell → 1 ≤ k → k ≤ len →
    let before := l.tapRead len ((l.inputCell : Int) - 1)
    let t := l.advance len limit pair k
    let closed := t.tapRead len l.inputCell
    let run := if 1 ≤ l.acc.count then 0
      else if closed.quality = .held then l.heldRun + 1 else l.heldRun
    (t.inputCell = l.inputCell + k ∧ t.clearMark = l.clearMark ∧ t.store.wf ∧
      t.acc = { sum := 0, count := 0, worst := none } ∧
      t.heldRun = if closed.quality = .void then run else run + min (k - 1) (limit - run)) ∧
    (1 ≤ l.acc.count → closed =
      { cell := l.inputCell, value := nearest l.acc.sum l.acc.count,
        quality := if l.acc.worst = some .single then .single else .dual,
        samples := min l.acc.count 255 }) ∧
    (l.acc.count = 0 → closed =
      if pair = .disagree ∨ pair = .none ∨ before.quality = .void ∨ limit ≤ l.heldRun then
        { cell := l.inputCell, value := 0, quality := .void, samples := 0 }
      else { cell := l.inputCell, value := before.value, quality := .held, samples := 0 }) ∧
    (∀ i : Nat, 1 ≤ i → i < k → t.tapRead len ((l.inputCell : Int) + i) =
      if closed.quality ≠ .void ∧ run + i ≤ limit then
        { cell := (l.inputCell : Int) + i, value := closed.value, quality := .held, samples := 0 }
      else { cell := (l.inputCell : Int) + i, value := 0, quality := .void, samples := 0 }) ∧
    ∀ n : Int, (l.clearMark : Int) ≤ n → n < l.inputCell → (t.inputCell : Int) - 1 - len < n →
      t.tapRead len n = l.tapRead len n) ∧
  (∀ (s : State) (n : Int), s.tapRead n = s.line.tapRead s.profile.lineLength n) ∧
  ∀ (l : Line) (len : Nat) (n : Int),
    (n < l.clearMark ∨ (l.inputCell : Int) ≤ n ∨ n ≤ (l.inputCell : Int) - 1 - len →
      l.tapRead len n = { cell := n, value := 0, quality := .void, samples := 0 }) ∧
    l.cleared.tapRead len n = { cell := n, value := 0, quality := .void, samples := 0 } ∧
    l.cleared =
      { inputCell := l.inputCell, clearMark := l.inputCell, heldRun := 0,
        acc := { sum := 0, count := 0, worst := none }, store := l.store }

/-- R57 step 4, R65, R66: an advance, cut short at the largest cell number (its JUMP report also where
it is cut to nothing: notes/assumptions/13.md), and a line clear are each answered by the marker unit,
the route store and the capture unit, once each, in an order that the manual leaves open and with the
report of the cause somewhere among the answers (R104, R108, R167, R175; notes/assumptions/4.md). R164:
the overtaking test. R89, R108, R166: the answers to a line clear, bank A's report formed before bank B
is freed (the model's choice, notes/assumptions/22.md). -/
def Obligations.LineIsAnswered : Prop :=
  (∀ (k : Nat) (own : State → Option Report) (s : State),
    let cells := min k (1099511627775 - s.line.inputCell)
    let u := s.setLine
      (s.line.advance s.profile.lineLength s.profile.heldLimit s.sensor.pairState cells)
    (cells = 0 → advance k own s = (own s).elim s (fun r => offerReport r s)) ∧
    (cells ≠ 0 → ∃ (n : Nat) (answers : List (State → State)),
      (n = s.book.choices ∨ n = s.book.choices + 1) ∧
      answers.Perm ([pass false, endTest, overtakingTest] ++ (own u).toList.map offerReport) ∧
      advance k own s =
        answers.foldl (fun t answer => answer t) (u.setBook { s.book with choices := n }))) ∧
  (∀ (own : Option Report) (s : State), ∃ (n : Nat) (answers : List (State → State)),
    (n = s.book.choices ∨ n = s.book.choices + 1) ∧
    answers.Perm ([markerClear, routeClear, captureClear] ++ own.toList.map offerReport) ∧
    lineClear own s = answers.foldl (fun t answer => answer t)
      ((s.setLine s.line.cleared).setBook { s.book with choices := n })) ∧
  ∀ s : State,
    let newest := (s.line.inputCell : Int) - 1
    let c := s.capture
    let report := fun (event : CaptureEvent) (after : Capture) (before : Option CapState) =>
      offerReport (.capture event c.source c.car c.serial (some after) before newest
        s.counters.capturesMissed) (s.setCapture after)
    (overtakingTest s = if c.state = .ready ∧ c.cursor < newest - s.profile.lineLength + 1 then
      report .overtaken { c with state := .overtaken } none else s) ∧
    (captureClear s = if c.state = .idle then s
      else report .cleared { c with state := .idle } (some c.state)) ∧
    (let frees := fun (bank : Bank) (u : State) =>
        let b := u.route.bank bank
        let route := u.route.setBank bank { b with state := .free }
        let start := b.startCell.getD 0
        if b.state = .inUse ∨ b.state = .draining then
          offerReport (.route .freed bank b.sectionId start (start + b.length) (some .lineClear)
            none route.a.state route.b.state newest) (u.setRoute route)
        else u
     routeClear s = frees .b (frees .a s)) ∧
    ∃ t, markerClear s = t ∧ (∀ car, t.regime car = { s.regime car with waiting := none }) ∧
      (let emptied := s.setMarker
        { s.marker with queue := [], attention := none, cars := t.marker.cars }
       (s.marker.attention = none → t = emptied) ∧
      ∀ hold ∈ s.marker.attention, t = offerReport (.attentionEnd .withdrawn hold.serial hold.car
        (s.regime hold.car).regime (s.regime hold.car).authority) emptied)

/-! ## Markers -/

/-- R71, R72, R76, R77, R103: a track marker offered for queueing. It is refused STALE, NO_POSITION, ORDER
or FULL, the last setting the marker-loss condition; else it joins the tail with the next serial and
every enabled car pending, is offered for anchoring, leaves at once if no car is enabled, and a pass
follows. R103: while no bank is IN_USE, the first READY bank whose anchor it matches starts, at its cell
or at the end cell of a DRAINING other bank that ends above it, with a STARTED report and the end test;
otherwise the offer has no effect. End cells are unbounded (notes/assumptions/21.md). -/
def Obligations.TrackMarkerJudged : Prop :=
  ∀ (cls : MarkerClass) (param : Byte) (stamp : Distance) (s : State),
    let refused := fun (reason : MarkerReason) (cell tail : Option Int) (u : State) =>
      offerReport (.marker reason cls param stamp cell tail u.marker.loss u.marker.queue.length) u
    let tails := s.marker.queue.getLast?.map (·.cell)
    (convertStamp stamp s = .stale →
      offerMarker cls param stamp s = refused .stale none none s) ∧
    (convertStamp stamp s = .noPosition →
      offerMarker cls param stamp s = refused .noPosition none none s) ∧
    ∀ n : Nat, convertStamp stamp s = .cell n →
      (∀ tail ∈ tails, n < tail →
        offerMarker cls param stamp s = refused .order (some n) (some tail) s) ∧
      ((∀ tail ∈ tails, tail ≤ n) →
        30 ≤ (s.marker.queue.filter (fun m => m.kind = .track)).length →
        offerMarker cls param stamp s =
          refused .full (some n) none (s.setMarker { s.marker with loss := true })) ∧
      ((∀ tail ∈ tails, tail ≤ n) →
        (s.marker.queue.filter (fun m => m.kind = .track)).length < 30 →
        let queued := s.setMarker
          { s.marker with
            queue := s.marker.queue ++ [
              { serial := s.marker.serialCounter, kind := .track, cls := cls, param := param,
                cell := n, bank := none, pending := allCars.filter (fun c => s.enabled c) }],
            serialCounter :=
              if 65535 ≤ s.marker.serialCounter then 1 else s.marker.serialCounter + 1 }
        let applied := fun (u : State) => pass false (dropEmptied false u)
        let inUse := ∃ bank : Bank, (s.route.bank bank).state = .inUse
        let anchored := fun (bank : Bank) => (s.route.bank bank).state = .ready ∧
          ∃ h ∈ (s.route.bank bank).header, h.anchor = some (cls, param)
        (inUse ∨ (∀ bank, ¬anchored bank) → offerMarker cls param stamp s = applied queued) ∧
        ∀ bank : Bank, ¬inUse → anchored bank → (bank = .b → ¬anchored .a) →
          let b := s.route.bank bank
          let other := s.route.bank bank.other
          let drained := other.startCell.getD 0 + other.length
          let start := if other.state = .draining ∧ n < drained then drained else n
          let route := s.route.setBank bank { b with state := .inUse, startCell := some start }
          offerMarker cls param stamp s = applied (endTest (offerReport
            (.route .started bank b.sectionId start (start + b.length) (some .anchor)
              (some (cls, param)) route.a.state route.b.state ((s.line.inputCell : Int) - 1))
            (queued.setRoute route))))

/-- R81, R83: after a pass over a queue whose cells never decrease, every marker that still holds an
enabled car that does not wait stands above that car's tap cell. -/
def Obligations.PassLeavesNothingDue : Prop :=
  ∀ (underWay : Bool) (s : State), s.marker.queue.Pairwise (fun x y => x.cell ≤ y.cell) →
    ∀ (c : Car) (m : Marker), (pass underWay s).enabled c = true →
      ((pass underWay s).regime c).waiting = none → m ∈ (pass underWay s).marker.queue →
      c ∈ m.pending → (pass underWay s).tapCell c < m.cell

/-- R81 to R84, R162: one car's part of a pass. A car that is disabled or waits takes no part. Any other
stops where no queued marker holds it, or the oldest that does stands above its tap cell; else it waits
on that marker where the entry found has attention, with its regime unchanged, or applies the entry and
goes on. To apply an entry is to take its regime and authority, leave the pending set, let an emptied
marker leave, and trigger the capture unit where the entry says so. Once every car is done in rising
order, the arbiter fills an empty record for the earliest marker's lowest waiting car. That the FREED
report of an emptied marker goes before the CAPTURE report is read from the order of R82
(notes/assumptions/17.md), and that the record copies the entry as it stands when it is filled, from
R84 (notes/assumptions/16.md). -/
def Obligations.PassAppliesMarkers : Prop :=
  (∀ (s : State) (c : Car),
    s.tapCell c = (s.line.inputCell : Int) - 1 - (s.carProfile c).tapOffset) ∧
  (∀ (underWay : Bool) (c : Car) (s : State),
    let oldest := s.marker.queue.find? (fun m => m.pending.contains c)
    (s.enabled c = false ∨ (s.regime c).waiting.isSome = true → passCar underWay c s = s) ∧
    (s.enabled c = true → (s.regime c).waiting = none →
      (s.marker.queue.map (·.serial)).Nodup →
      (oldest = none → passCar underWay c s = s) ∧
      ∀ m, oldest = some m →
        let e := s.entry (s.regime c).regime m.cls
        (s.tapCell c < m.cell → passCar underWay c s = s) ∧
        (m.cell ≤ s.tapCell c → e.attention = true → passCar underWay c s = s.setMarker
          { s.marker with
            cars := s.marker.cars.set c { s.regime c with waiting := some m.serial } }) ∧
        (m.cell ≤ s.tapCell c → e.attention = false →
          passCar underWay c s = passCar underWay c (applyEntry underWay c m.serial e s)))) ∧
  (∀ (underWay : Bool) (c : Car) (serial : Nat) (e : RegimeEntry) (s : State),
    let taken := dropEmptied underWay (s.setMarker
      { s.marker with
        cars := s.marker.cars.set c
          { s.regime c with regime := e.next, authority := e.authority },
        queue := s.marker.queue.map (fun m => if m.serial = serial then
          { m with pending := m.pending.filter (fun d => d ≠ c) } else m) })
    let begun : Capture :=
      { state := .ready, mode := .relative, source := .regime, car := some c, serial := some serial,
        start := (s.line.inputCell : Int) - s.profile.captureLength, stop := s.line.inputCell,
        cursor := (s.line.inputCell : Int) - s.profile.captureLength }
    let missed := bump s.counters.capturesMissed
    let newest := (s.line.inputCell : Int) - 1
    (e.capture = false → applyEntry underWay c serial e s = taken) ∧
    (e.capture = true → s.capture.state = .idle ∨ s.capture.state = .done →
      applyEntry underWay c serial e s = offerReport (.capture .triggered .regime (some c)
        (some serial) (some begun) none newest s.counters.capturesMissed)
        (taken.setCapture begun)) ∧
    (e.capture = true → s.capture.state = .ready ∨ s.capture.state = .overtaken →
      applyEntry underWay c serial e s = offerReport (.capture .missed .regime (some c)
        (some serial) none none newest missed)
        (taken.setCounters { taken.counters with capturesMissed := missed }))) ∧
  ∀ (underWay : Bool) (s : State),
    let u := allCars.foldl (fun t c => passCar underWay c t) s
    let idle := fun (m : Marker) => ∀ d, (u.regime d).waiting ≠ some m.serial
    (u.marker.attention.isSome = true ∨ (∀ m ∈ u.marker.queue, idle m) → pass underWay s = u) ∧
    ∀ (before after : List Marker) (m : Marker) (c : Car), u.marker.attention = none →
      u.marker.queue = before ++ m :: after → (∀ x ∈ before, idle x) →
      (u.regime c).waiting = some m.serial →
      (∀ d, d < c → (u.regime d).waiting ≠ some m.serial) →
      let hold : Attention :=
        { serial := m.serial, car := c, cls := m.cls, param := m.param,
          regimeBefore := (u.regime c).regime, copy := u.entry (u.regime c).regime m.cls,
          timer := u.profile.attentionTimeout }
      pass underWay s =
        offerReport (.attention hold) (u.setMarker { u.marker with attention := some hold })

/-- R87, R85: the expiry of the attention timer, which runs while the record is occupied. The held car
applies the copy with its authority capped at LIMITED, by `applyEntry`, which PassAppliesMarkers spells
out: it takes the next regime and that authority and leaves the marker, a marker that this empties
leaves the queue and frees its bank (R75), and a capture flag triggers the capture unit (R162). The car
stops waiting, the record empties, the serial becomes the last timed out, ATTENTION_END is offered, and
a pass follows. That a stopped timer does not expire is the model's choice (notes/assumptions/2.md), and
the order of the reports of one application is read from R82 (notes/assumptions/17.md). -/
def Obligations.AttentionTimerExpires : Prop :=
  ∀ s : State, s.pins.coldReset = false →
    (s.marker.attention = none → exec .attentionTimerExpiry s = .next s) ∧
    ∀ hold, s.marker.attention = some hold →
      let authority : Authority := if hold.copy.authority = .full then .limited
        else hold.copy.authority
      let applied := applyEntry false hold.car hold.serial
        { hold.copy with authority := authority } s
      let u := applied.setMarker
        { applied.marker with
          attention := none,
          cars := applied.marker.cars.set hold.car
            { regime := hold.copy.next, authority := authority, waiting := none } }
      exec .attentionTimerExpiry s = .next (pass false (offerReport
          (.attentionEnd .timeout hold.serial hold.car hold.copy.next authority)
          (u.setMarker { u.marker with lastTimedOut := some hold.serial }))) ∧
        u.regime hold.car = { regime := hold.copy.next, authority := authority, waiting := none } ∧
        (∀ d, d ≠ hold.car → u.regime d = s.regime d) ∧
        u.marker.attention = none ∧
        (∀ m ∈ u.marker.queue, m.serial = hold.serial → hold.car ∉ m.pending) ∧
        u.marker.serialCounter = s.marker.serialCounter ∧ u.marker.table = s.marker.table ∧
        u.marker.loss = s.marker.loss ∧
        u = (((((s.setPorts u.ports).setCounters u.counters).setRoute u.route).setCapture
          u.capture).setMarker u.marker)

/-! ## Route sections -/

/-- R107, R110: a lookup at cell x reads the point list of the bank, IN_USE or DRAINING, whose section
contains x, from its start cell up to and without its end cell, at the offset x less the start cell; it
is unknown at a cell in the section of no such bank, and so below cell 0. (No cell lies in the sections
of two banks: R101, BanksStaySound. End cells are unbounded: notes/assumptions/21.md.) R110, R111: the
values of a lookup at offset o in a list whose offsets rise, which are known from the first point's
offset on. Past the last point they are that point's own; between two points K and C are interpolated
with nearest rounding and lie between the points' values, and the permit is that of the point at or
below o. -/
def Obligations.LookupInterpolates : Prop :=
  (∀ (r : Route) (x : Int),
    let holds := fun (bank : Bank) =>
      let b := r.bank bank
      let start := b.startCell.getD 0
      (b.state = .inUse ∨ b.state = .draining) ∧ (start : Int) ≤ x ∧
        x < (start : Int) + (b.header.map (·.length)).getD 0
    ((∀ bank, ¬holds bank) → r.lookup x = none) ∧
    (x < 0 → r.lookup x = none) ∧
    ∀ bank, holds bank → ¬holds bank.other → r.lookup x =
      lookPoints (r.bank bank).points (x - ((r.bank bank).startCell.getD 0 : Nat)).toNat) ∧
  (∀ (p : Point) (rest : List Point) (o : Nat), rising (p :: rest) = true → p.offset ≤ o →
    (lookPoints (p :: rest) o).isSome = true) ∧
  (∀ (xs : List Point) (p : Point) (o : Nat), rising (xs ++ [p]) = true → p.offset ≤ o →
    lookPoints (xs ++ [p]) o = some { k := p.k, c := p.c, permit := p.permit }) ∧
  ∀ (xs ys : List Point) (p q : Point) (o : Nat), rising (xs ++ p :: q :: ys) = true →
    p.offset ≤ o → o < q.offset →
    let d := o - p.offset
    let span := q.offset - p.offset
    let k := p.k + nearest ((q.k - p.k) * d) span
    let c := p.c + nearest ((q.c - p.c) * d) span
    lookPoints (xs ++ p :: q :: ys) o = some { k := k, c := c, permit := p.permit } ∧
    (min p.k q.k ≤ k ∧ k ≤ max p.k q.k) ∧ (min p.c q.c ≤ c ∧ c ≤ max p.c q.c) ∧
    (o = p.offset → k = p.k ∧ c = p.c)

/-- R74, R75, R102, R104 to R106: the end test, due where a bank is IN_USE and the newest closed cell is at
or above its end cell. One end: the IN_USE bank drains with its start and its
points kept, its SECTION_END marker is queued at its end cell, raised to the tail's where a queued marker
stands above it, with its pass and then the ENDED report; a READY other bank becomes IN_USE at the cell
where the ended section ends, with STARTED, and any other bank stays as it was, with UNKNOWN_AHEAD. The
chained section may end in the same event, and no third one does. Markers left with no car pending leave
the queue; of those that carry a bank the route store is told, at once, or after the end under way, and
frees the bank with a FREED report. The notices that wait stand in the model's own field
(notes/assumptions/10.md); that ENDED follows the pass is read from R104 (notes/assumptions/17.md); that
notices of one moment go from head to tail of the queue, and that end cells are unbounded, is the model's
choice (notes/assumptions/23.md and 21.md). -/
def Obligations.SectionEndChains : Prop :=
  (∀ s : State,
    let ends := fun (bank : Bank) (u : State) =>
      let ended := u.route.bank bank
      let other := u.route.bank bank.other
      let start := ended.startCell.getD 0
      let stop := start + ended.length
      let newest := (u.line.inputCell : Int) - 1
      let drained := u.route.setBank bank { ended with state := .draining }
      let chained := drained.setBank bank.other
        { other with state := .inUse, startCell := some stop }
      let marker : Marker :=
        { serial := u.marker.serialCounter, kind := .sectionEnd,
          cls := (ended.header.map (·.endClass)).getD 0, param := BitVec.ofNat 8 ended.sectionId,
          cell := match u.marker.queue.getLast? with
            | some tail => if ∃ m ∈ u.marker.queue, stop < m.cell then tail.cell else stop
            | none => stop,
          bank := some bank, pending := allCars.filter (fun c => u.enabled c) }
      let queued := (u.setRoute drained).setMarker
        { u.marker with
          queue := u.marker.queue ++ [marker],
          serialCounter :=
            if 65535 ≤ u.marker.serialCounter then 1 else u.marker.serialCounter + 1 }
      let after := offerReport (.route .ended bank ended.sectionId start stop none none
        drained.a.state drained.b.state newest) (pass true (dropEmptied true queued))
      if other.state = .ready then
        offerReport (.route .started bank.other other.sectionId stop (stop + other.length)
          (some .chain) none chained.a.state chained.b.state newest) (after.setRoute chained)
      else offerReport (.route .unknownAhead bank ended.sectionId start stop none none
        drained.a.state drained.b.state newest) after
    (s.endDue = none → endTest s = takeNotices s) ∧
    ∀ bank, s.endDue = some bank →
      let ended := s.route.bank bank
      let other := s.route.bank bank.other
      let t := ends bank s
      t.route.bank bank = { ended with state := .draining } ∧
      (other.state = .ready → t.route.bank bank.other =
        { other with state := .inUse, startCell := some (ended.startCell.getD 0 + ended.length) }) ∧
      (other.state ≠ .ready → t.route.bank bank.other = other) ∧
      (t.endDue = none → endTest s = takeNotices t) ∧
      ∀ next, t.endDue = some next → next = bank.other ∧ (ends next t).endDue = none ∧
        endTest s = takeNotices (ends next t)) ∧
  (∀ b : BankRecord, b.length = (b.header.map (·.length)).getD 0 ∧
    b.sectionId = (b.header.map (·.sectionId)).getD 0) ∧
  (∀ s : State, ((∀ bank, (s.route.bank bank).state ≠ .inUse) → s.endDue = none) ∧
    ∀ bank, (s.route.bank bank).state = .inUse → (s.route.bank bank.other).state ≠ .inUse →
      let b := s.route.bank bank
      s.endDue = if b.startCell.getD 0 + (b.header.map (·.length)).getD 0 < s.line.inputCell
        then some bank else none) ∧
  ∀ s : State,
    let frees := fun (u : State) (bank : Bank) =>
      let b := u.route.bank bank
      let start := b.startCell.getD 0
      let route := u.route.setBank bank { b with state := .free }
      offerReport (.route .freed bank b.sectionId start (start + b.length) (some .passed) none
        route.a.state route.b.state ((u.line.inputCell : Int) - 1)) (u.setRoute route)
    let emptied := (s.marker.queue.filter (fun m => m.pending = [])).filterMap (·.bank)
    let kept := s.setMarker
      { s.marker with queue := s.marker.queue.filter (fun m => m.pending ≠ []) }
    dropEmptied false s = emptied.foldl frees kept ∧
    dropEmptied true s = kept.setBook { s.book with notices := s.book.notices ++ emptied } ∧
    takeNotices s = s.book.notices.foldl frees (s.setBook { s.book with notices := [] })

/-! ## Demand engine -/

/-- R113: nearest rounding gives an integer at a distance of at most half, the one farther from zero
where two are equally near, and the only one where one is nearest. -/
def Obligations.NearestRounding : Prop :=
  ∀ (a : Int) (b : Nat), 0 < b →
    2 * ((b : Int) * nearest a b - a).natAbs ≤ b ∧
    (2 * ((b : Int) * nearest a b - a).natAbs = b → a.natAbs ≤ b * (nearest a b).natAbs) ∧
    ∀ q : Int, 2 * ((b : Int) * q - a).natAbs < b → nearest a b = q

/-- R120 to R126: what one car's computation gives. It reads the car's tap cell and the route at its
preview cell (LookupInterpolates says what that gives); the estimate blends the measured value and the
feedforward, and lies between those present; the effective authority is the least of the entry authority
and of every cap whose condition holds; the raw angle is the estimate by the gain; the clamped angle lies
within 1000 and within the limit of the effective authority, which is L_F for FULL, L_L for LIMITED and 0
for NONE; the new angle lies between the previous and the clamped angle, at most a rate step from the
previous, and at the clamped angle where that is within a rate step; at NONE it is no farther from 0 than
it was. -/
def Obligations.ComputationWithinLimits : Prop :=
  (∀ (s : State) (c : Car) (q : Quality) (look : Option Looked),
    (effectiveAuthority s c q look).code =
      List.foldl min (s.regime c).authority.code
        [ if q = .single ∨ q = .held then 1 else 2,
          if q = .void then (if look.isSome then 1 else 0) else 2,
          (match look with
            | some l => l.permit.code
            | none => 2),
          if s.demand.gateOpen then 2 else 0,
          if s.odo.state = .tracking then 2 else 0,
          if s.odo.uncertain then 1 else 2,
          if s.marker.loss then 1 else 2,
          if (s.channel c).state = .centring then 0 else 2,
          if s.executor.opState = .standby then 0 else 2 ]) ∧
  (∀ (w : Nat) (m f : Int), w ≤ 256 →
    blend w (some m) (some f) = nearest ((w : Int) * f + (256 - (w : Int)) * m) 256 ∧
    min m f ≤ blend w (some m) (some f) ∧ blend w (some m) (some f) ≤ max m f ∧
    blend w (some m) none = m ∧ blend w none (some f) = f ∧ blend w none none = 0) ∧
  ∀ (s : State) (c : Car),
    let r := computation s c
    let p := s.carProfile c
    let previous := (s.channel c).thetaPrev
    let newest := (s.line.inputCell : Int) - 1
    let tap := newest - p.tapOffset
    let record := s.tapRead tap
    let look := s.route.lookup (min (tap + p.preview) newest)
    let measure := if record.quality = .void then none else some record.value
    let predict := look.map (fun l => max (-2048) (min 2047
      (nearest ((s.odo.speed : Int) * s.odo.speed * l.k) 1048576 - l.c)))
    let limit : Nat := match r.authority with
      | .full => p.fullLimit
      | .limited => p.limitedLimit
      | .none => 0
    r.quality = record.quality ∧ r.routeKnown = look.isSome ∧
    r.authority = effectiveAuthority s c record.quality look ∧
    r.estimate = blend p.weight measure predict ∧
    r.clamped = max (-(limit : Int)) (min limit
      (max (-1000) (min 1000 (nearest (r.estimate * p.gain) 256)))) ∧
    r.clamped.natAbs ≤ limit ∧ r.clamped.natAbs ≤ 1000 ∧
    (r.angle - previous).natAbs ≤ p.rateStep ∧
    min previous r.clamped ≤ r.angle ∧ r.angle ≤ max previous r.clamped ∧
    ((r.clamped - previous).natAbs ≤ p.rateStep → r.angle = r.clamped) ∧
    (p.rateStep < (r.clamped - previous).natAbs → (r.angle - previous).natAbs = p.rateStep) ∧
    (r.authority = .none → r.clamped = 0 ∧ r.angle.natAbs ≤ previous.natAbs)

/-- R117 to R119, R127, R128, R137, R143 to R145: the expiry of the command timer. The timer restarts with
the command period. Where an earlier COMMAND frame still waits the period is skipped and counted, and
nothing is computed; else every FOLLOWING or CENTRING car is computed from the state as the event met
it and takes its new angle, a CENTRING car at 0 parking with a CENTRED report, and one COMMAND frame with
an entry for each unit begins at a free aft transmitter or waits at the arbiter; the held cars whose units
it sends PARK follow, each with a PARK_SENT report. The ageing (R135) closes both. Nothing but ports,
counters, demand engine and cars changes. Where several positions share a unit the lowest gives its entry
(notes/assumptions/19.md); a CENTRING car that parks keeps its tracking run, which the entry to FOLLOWING
sets to 0 (notes/assumptions/12.md); the order of several PARK_SENT reports is the model's choice
(notes/assumptions/17.md). -/
def Obligations.CommandTimerExpires : Prop :=
  ∀ s : State, s.pins.coldReset = false → ∃ t, exec .commandTimerExpiry s = .next t ∧
    let timed := { s.demand with timer := some s.profile.commandPeriod }
    t = ((((s.setPorts t.ports).setCounters t.counters).setDemand
      { timed with last := t.demand.last }).setCars { t.cars with order := s.cars.order }) ∧
    (s.ports.waiting.isSome = true →
      t = ageAll ((s.setCounters
        { s.counters with commandSkips := bump s.counters.commandSkips }).setDemand timed) ∧
      t.demand.last = s.demand.last ∧ t.cars.commandSeq = s.cars.commandSeq ∧
      t.ports.aftSeq = s.ports.aftSeq ∧
      t.counters.commandSkips = bump s.counters.commandSkips ∧
      ∀ c, (t.channel c).state ≠ .failed → (t.channel c).thetaPrev = (s.channel c).thetaPrev) ∧
    (s.ports.waiting = none →
      let computed := fun (c : Car) =>
        let x := s.channel c
        let angle := (computation s c).angle
        if x.state = .centring ∧ angle = 0 then
          { x with state := .parked, thetaPrev := 0, parkHeld := false }
        else if x.state = .following ∨ x.state = .centring then { x with thetaPrev := angle }
        else x
      let entry := fun (x : CarChannel) =>
        if x.state = .following ∨ x.state = .centring then
          ({ mode := .tilt, angle := x.thetaPrev } : CmdEntry)
        else if x.state = .hold then { mode := .hold, angle := x.thetaPrev }
        else { mode := .park, angle := 0 }
      let followed := fun (w : CommandFrame) (c : Car) =>
        let x := computed c
        if x.state = .parked ∧ x.parkHeld = true ∧ s.enabled c = true ∧
            s.executor.opState = .active ∧ w.entries[s.unitOf c].mode = .park then
          { x with state := .following, thetaPrev := 0, run := 0, parkHeld := false }
        else x
      let stored := s.setDemand
        { timed with
          last := tabulate (fun c =>
            if (s.channel c).state = .following ∨ (s.channel c).state = .centring then
              some (computation s c) else s.demand.last[c]) }
      let moved := allCars.foldl (fun u c => u.carChanged c (computed c) .centred) stored
      let handed := fun (w : CommandFrame) => (moved.setPorts
        (if s.ports.aftTx = none then
          { moved.ports with aftTx := some (w.frame s.nodeAddress), aftSeq := s.ports.aftSeq + 1 }
        else { moved.ports with waiting := some w, aftSeq := s.ports.aftSeq + 1 })).setCars
        { moved.cars with commandSeq := s.cars.commandSeq + 1, lastHanded := w.entries }
      ∃ (w : CommandFrame) (v : State), t = ageAll v ∧
        v = allCars.foldl (fun u c => u.carChanged c (followed w c) .parkSent) (handed w) ∧
        w.seq = s.ports.aftSeq ∧ w.commandSeq = s.cars.commandSeq ∧
        (s.executor.opState = .safe → ∀ u : UnitId, w.entries[u] = { mode := .park, angle := 0 }) ∧
        (s.executor.opState ≠ .safe →
          (∀ c, s.enabled c = true →
            (∀ d, s.enabled d = true → s.unitOf d = s.unitOf c → c ≤ d) →
            w.entries[s.unitOf c] = entry (computed c)) ∧
          ∀ u : UnitId, (∀ c, s.enabled c = true → s.unitOf c ≠ u) →
            w.entries[u] = { mode := .park, angle := 0 }) ∧
        (s.ports.aftTx = none →
          v.ports.aftTx = some (w.frame s.nodeAddress) ∧ v.ports.waiting = none) ∧
        (s.ports.aftTx ≠ none → v.ports.aftTx = s.ports.aftTx ∧ v.ports.waiting = some w) ∧
        v.ports.aftQueue = s.ports.aftQueue ∧ v.ports.aftSeq = s.ports.aftSeq + 1 ∧
        v.counters.commandSkips = s.counters.commandSkips ∧
        (∀ c, v.channel c = followed w c) ∧
        (∀ c, v.demand.last[c] =
          if (s.channel c).state = .following ∨ (s.channel c).state = .centring then
            some (computation s c) else s.demand.last[c]) ∧
        v = ((((s.setPorts v.ports).setCounters v.counters).setDemand
          { timed with last := v.demand.last }).setCars
          { s.cars with
            channels := v.cars.channels, commandSeq := s.cars.commandSeq + 1,
            lastHanded := w.entries }) ∧
        t.cars.commandSeq = s.cars.commandSeq + 1 ∧ t.ports.aftSeq = s.ports.aftSeq + 1 ∧
        t.counters.commandSkips = s.counters.commandSkips ∧ t.demand.last = v.demand.last)

/-! ## Car supervisor -/

/-- R131 to R134, R115, R137, R145: one status taken by a car. It leaves the car's channel record as
given here and no other car's record changed; a change of channel state rewrites a COMMAND frame that
waits where the car enters FAILED, and then sends its CAR report, TRACKING or that of the unit state;
nothing else changes. The tracking run of a car that enters FAILED, and HOLD in SAFE, are the model's
reading (notes/assumptions/12.md and 18.md). -/
def Obligations.StatusActsOnCar : Prop :=
  ∀ (c : Car) (u : UnitState) (actual : Int) (echo : Word16) (s : State),
    let x := s.channel c
    let t := takeStatus c u actual echo s
    let lags := s.profile.trackingLimit < (actual - x.thetaPrev).natAbs
    let after : ChanState :=
      if x.state = .following ∧ lags ∧ s.profile.trackingCount ≤ x.run + 1 then .failed
      else match u, x.state with
        | .ready, .hold =>
          (match s.executor.opState with
            | .active => .following
            | .standby => .centring
            | .safe => .hold)
        | .busy, .following => .hold
        | .busy, .centring => .hold
        | .fault, .off => .off
        | .fault, _ => .failed
        | _, st => st
    let fails := after = .failed ∧ x.state ≠ .failed
    let y : CarChannel :=
      { state := after, age := 0, lastState := some u, lastActual := some actual,
        lastEcho := some echo, thetaPrev := if fails then 0 else x.thetaPrev,
        run := if fails then 0
          else if x.state = .following then (if lags then x.run + 1 else 0)
          else if after = .following then 0 else x.run,
        parkHeld := if fails ∨ after = .following ∧ x.state = .hold then false else x.parkHeld }
    let cause : CarCause :=
      if x.state = .following ∧ lags ∧ s.profile.trackingCount ≤ x.run + 1 then .tracking
      else match u with
        | .ready => .unitReady
        | .busy => .unitBusy
        | .fault => .unitFault
    t.channel c = y ∧ (∀ d, d ≠ c → t.channel d = s.channel d) ∧ t = s.carChanged c y cause

/-- R135, R137, R145: the ageing that closes every expiry of the command timer. First every car that is
not OFF ages; then each car in rising order of position enters HOLD or FAILED where its age says so, a
COMMAND frame that waits being rewritten for a car that enters FAILED, with one CAR report, AGE_HOLD or
AGE_FAIL, for the whole change; nothing else changes. The tracking run of a car that enters FAILED is the
model's reading (notes/assumptions/12.md). -/
def Obligations.AgeingHoldsThenFails : Prop :=
  ∀ s : State,
    let age := fun (x : CarChannel) =>
      if x.state = .off then x.age else if x.age < 255 then x.age + 1 else x.age
    let after := fun (x : CarChannel) =>
      if x.state = .following ∨ x.state = .centring then
        (if s.profile.holdCount ≤ age x then
          (if s.profile.failCount ≤ age x then .failed else .hold) else x.state)
      else if x.state = .hold ∧ s.profile.failCount ≤ age x then .failed else x.state
    let aged := fun (x : CarChannel) =>
      if after x = .failed ∧ x.state ≠ .failed then
        { x with age := age x, state := .failed, thetaPrev := 0, run := 0, parkHeld := false }
      else { x with age := age x, state := after x }
    let grown := s.setCars
      { s.cars with
        channels := tabulate (fun c => { s.channel c with age := age (s.channel c) }) }
    (∀ c, (ageAll s).channel c = aged (s.channel c)) ∧
    ageAll s = allCars.foldl (fun u c => u.carChanged c (aged (s.channel c))
      (if after (s.channel c) = .failed then .ageFail else .ageHold)) grown

/-- R145, third: the entry that an expiry hands a unit, where it is TILT or HOLD, stands at most the
mapped car's rate step from the angle the unit was last handed, 0 where that was PARK; and in SAFE
every entry handed is PARK with angle 0 (R144). -/
def Obligations.CommandAnglesStepAtMostRate : Prop :=
  ∀ s : State, CarsSound s → HandedSound s → s.pins.coldReset = false →
    s.ports.waiting = none → ∃ t, exec .commandTimerExpiry s = .next t ∧
    (∀ c : Car, s.enabled c = true →
      t.cars.lastHanded[s.unitOf c].mode ≠ .park →
      (t.cars.lastHanded[s.unitOf c].angle -
        s.cars.lastHanded[s.unitOf c].lastAngle).natAbs ≤ (s.carProfile c).rateStep) ∧
    (s.executor.opState = .safe → ∀ u : UnitId, t.cars.lastHanded[u] = { mode := .park, angle := 0 })

/-! ## Requests that read -/

/-- R174, R146, R91, R99: the requests that read are answered from the records as they stand, with the
fields of section 12.2, and change nothing but the request queue and the fore port. R177: every field
goes most significant byte first, a signed one in two's complement. Section 12.5: the codes of the
enumerated fields of replies and reports. -/
def Obligations.ReadsChangeNothing : Prop :=
  (∀ w n : Nat, (be w n).length = w ∧
    ∀ i, i < w → ((be w n).getD i 0).toNat = n / 256 ^ (w - 1 - i) % 256) ∧
  (∀ (w : Nat) (x : Int), ∃ n : Nat, beInt w x = be w n ∧ n < 256 ^ w ∧
    ((256 ^ w : Nat) : Int) ∣ x - n) ∧
  ([false, true].map boolCode = [0, 1] ∧ [Bank.a, .b].map Bank.code = [0, 1] ∧
    [OpState.safe, .standby, .active].map OpState.code = [0, 1, 2] ∧
    [CmdMode.park, .tilt, .hold].map CmdMode.code = [0, 1, 2] ∧
    [Authority.none, .limited, .full].map Authority.code = [0, 1, 2] ∧
    [some UnitState.ready, some .busy, some .fault, none].map unitStateCode = [0, 1, 2, 3] ∧
    [Role.sensorP, .sensorQ, .odometry, .markerReader, .unitStatus, .manager].map Role.code =
      [0, 1, 2, 3, 4, 5] ∧
    [Quality.dual, .single, .held, .void].map Quality.code = [0, 1, 2, 3] ∧
    [MarkerKind.track, .sectionEnd].map MarkerKind.code = [0, 1] ∧
    [PairState.none, .singleP, .singleQ, .dual, .disagree].map PairState.code = [0, 1, 2, 3, 4] ∧
    [ChannelState.absent, .settling, .good].map ChannelState.code = [0, 1, 2] ∧
    [OdoState.unset, .tracking, .lost].map OdoState.code = [0, 1, 2] ∧
    [BankState.free, .loading, .ready, .inUse, .draining].map BankState.code = [0, 1, 2, 3, 4] ∧
    [ChanState.off, .parked, .following, .centring, .hold, .failed].map ChanState.code =
      [0, 1, 2, 3, 4, 5] ∧
    [CapState.idle, .ready, .done, .overtaken].map CapState.code = [0, 1, 2, 3] ∧
    [CapMode.relative, .absolute].map CapMode.code = [0, 1] ∧
    [CapSource.request, .regime].map CapSource.code = [0, 1] ∧
    [StateCause.request, .warmRestart].map StateCause.code = [0, 1] ∧
    [SensorCause.channelGood, .channelFault, .channelTimeout, .agree, .disagree].map
      SensorCause.code = [0, 1, 2, 3, 4] ∧
    [OdoEvent.lost, .restored, .jump, .uncertain, .certain].map OdoEvent.code = [0, 1, 2, 3, 4] ∧
    [JumpCause.backward, .forward].map JumpCause.code = [0, 1] ∧
    [MarkerReason.order, .full, .stale, .noPosition].map MarkerReason.code = [0, 1, 2, 3] ∧
    [EndReason.timeout, .withdrawn].map EndReason.code = [0, 1] ∧
    [RouteEvent.started, .ended, .unknownAhead, .freed].map RouteEvent.code = [0, 1, 2, 3] ∧
    [RouteCause.chain, .anchor, .passed, .lineClear].map RouteCause.code = [0, 1, 2, 3] ∧
    [CarCause.unitFault, .unitBusy, .unitReady, .tracking, .ageHold, .ageFail, .centred,
      .parkSent].map CarCause.code = [0, 1, 2, 3, 4, 5, 6, 7] ∧
    [CaptureEvent.triggered, .missed, .overtaken, .cleared].map CaptureEvent.code =
      [0, 1, 2, 3]) ∧
  ∀ (s : State) (r : Request) (rest : List Request),
    let p := r.payload
    let status := be 1 s.executor.opState.code ++ be 1 s.sensor.pairState.code ++
      be 1 s.sensor.chP.state.code ++ be 1 s.sensor.chQ.state.code ++ be 1 s.odo.state.code ++
      be 2 s.odo.speed ++ be 6 s.line.inputCell ++ be 6 s.line.clearMark ++
      be 1 (boolCode s.demand.gateOpen) ++ be 1 (boolCode s.marker.loss) ++
      be 1 (boolCode s.odo.uncertain) ++ be 1 s.route.a.state.code ++ be 1 s.route.b.state.code ++
      be 1 s.marker.queue.length ++ be 2 ((s.marker.attention.map (·.serial)).getD 0) ++
      be 1 s.capture.state.code ++
      [s.counters.foreCheck, s.counters.aftCheck, s.counters.seqGaps, s.counters.aftDrops,
        s.counters.foreDrops, s.counters.reportDrops, s.counters.requestDrops,
        s.counters.commandSkips, s.counters.capturesMissed].flatMap (be 2)
    let car := fun (c : Car) =>
      let x := s.channel c
      let e := s.cars.lastHanded[s.unitOf c]
      be 1 (s.unitOf c).val ++ be 1 x.state.code ++ beInt 2 x.thetaPrev ++
        be 1 (unitStateCode x.lastState) ++ beInt 2 (x.lastActual.getD 0) ++
        be 2 (x.lastEcho.getD 0).toNat ++ be 1 x.age ++ be 1 x.run ++ be 1 (s.regime c).regime.val ++
        be 1 (s.regime c).authority.code ++ be 2 ((s.regime c).waiting.getD 0) ++
        (match s.demand.last[c] with
          | some m =>
            be 1 1 ++ be 1 m.quality.code ++ be 1 (boolCode m.routeKnown) ++ beInt 2 m.estimate ++
              be 1 m.authority.code ++ beInt 2 m.clamped ++ beInt 2 m.angle
          | none => List.replicate 10 0) ++
        be 1 e.mode.code ++ beInt 2 e.angle
    let record := fun (m : Marker) =>
      be 2 m.serial ++ be 1 m.kind.code ++ be 1 m.cls.val ++ be 1 m.param.toNat ++ be 6 m.cell ++
        be 1 ((m.bank.map (·.code)).getD 0) ++
        be 2 ((allCars.map (fun d => if d ∈ m.pending then 2 ^ d.val else 0)).sum)
    let held := fun (b : BankRecord) =>
      be 1 b.state.code ++
        (match b.header with
          | some h => be 1 1 ++ be 2 h.sectionId ++ be 2 h.length ++
            (match h.anchor with
              | some (cls, param) => be 1 1 ++ be 1 cls.val ++ be 1 param.toNat
              | none => List.replicate 3 0) ++ be 1 h.endClass.val
          | none => List.replicate 9 0) ++
        (match b.startCell with
          | some x => be 1 1 ++ be 6 x
          | none => List.replicate 7 0) ++
        be 2 b.points.length
    (Serves s .readStatus r rest →
      exec .readStatus s = .next (s.answered r rest ⟨.ok, status⟩)) ∧
    (Serves s .readCar r rest →
      (11 < field p 0 1 → exec .readCar s = .next (s.answered r rest (.bare .range))) ∧
      ∀ c : Car, field p 0 1 = c.val →
        exec .readCar s = .next (s.answered r rest ⟨.ok, car c⟩)) ∧
    (Serves s .readMarkers r rest →
      (31 < field p 0 1 → exec .readMarkers s = .next (s.answered r rest (.bare .range))) ∧
      (field p 0 1 ≤ 31 → exec .readMarkers s = .next (s.answered r rest
        ⟨.ok, be 1 s.marker.queue.length ++
          be 1 (min 3 (s.marker.queue.length - field p 0 1)) ++
          ((s.marker.queue.drop (field p 0 1)).take 3).flatMap record⟩))) ∧
    (Serves s .readBank r rest →
      (1 < field p 0 1 → exec .readBank s = .next (s.answered r rest (.bare .format))) ∧
      ∀ bank : Bank, field p 0 1 = bank.code →
        exec .readBank s = .next (s.answered r rest ⟨.ok, held (s.route.bank bank)⟩))

/-! ## Operating states -/

/-- R148 to R156: Set State. An undefined target is refused FORMAT; the present state is answered OK
without a change; from SAFE a change needs the check; and a change that is made sets the state, acts
on the cars, offers its STATE report before the reply and changes nothing else. -/
def Obligations.SetStateOutcomes : Prop :=
  ∀ (s : State) (r : Request) (rest : List Request), Serves s .setState r rest →
    let code := field r.payload 0 1
    let asked := s.taken rest
    let answer := fun (u : State) =>
      placeReply r (.bare .ok) (offerReport (.state s.executor.opState u.executor.opState .request
        (allCars.map (fun c => (u.channel c).state))) u)
    let parked := fun (x : CarChannel) =>
      if x.state = .following ∨ x.state = .centring ∨ x.state = .hold then
        { x with state := .parked, thetaPrev := 0, run := 0, parkHeld := false }
      else { x with parkHeld := false }
    let follows := fun (c : Car) (x : CarChannel) =>
      if x.state = .centring then { x with state := .following, run := 0, parkHeld := false }
      else if x.state = .parked then
        if s.cars.lastHanded[s.unitOf c].mode = .park then
          { x with state := .following, thetaPrev := 0, run := 0, parkHeld := false }
        else { x with parkHeld := true }
      else x
    let centres := fun (x : CarChannel) =>
      { x with state := if x.state = .following then .centring else x.state, parkHeld := false }
    let entered := fun (st : OpState) (u : State) =>
      u = ((asked.setExecutor { asked.executor with opState := st }).setPorts
        { asked.ports with waiting := u.ports.waiting }).setCars
        { s.cars with channels := u.cars.channels, lastHanded := u.cars.lastHanded }
    let keepsFrame := fun (u : State) =>
      u.ports.waiting = s.ports.waiting ∧ u.cars.lastHanded = s.cars.lastHanded
    (2 < code → exec .setState s = .next (s.answered r rest (.bare .format))) ∧
    (code = s.executor.opState.code →
      exec .setState s = .next (s.answered r rest (.bare .ok))) ∧
    (code = 0 → s.executor.opState ≠ .safe → ∃ u, exec .setState s = .next (answer u) ∧
      entered .safe u ∧ (∀ c, u.channel c = parked (s.channel c)) ∧
      (s.ports.waiting = none → keepsFrame u) ∧
      ∀ w ∈ s.ports.waiting,
        u.ports.waiting = some { w with entries := Vector.replicate 12 { mode := .park, angle := 0 } } ∧
        u.cars.lastHanded = Vector.replicate 12 { mode := .park, angle := 0 }) ∧
    (code = 1 → s.executor.opState = .active → ∃ u, exec .setState s = .next (answer u) ∧
      entered .standby u ∧ (∀ c, u.channel c = centres (s.channel c)) ∧ keepsFrame u) ∧
    (code = 2 → (s.executor.opState = .standby ∨
        s.executor.opState = .safe ∧ leaveCheck s = none) →
      ∃ u, exec .setState s = .next (answer u) ∧
      entered .active u ∧ (∀ c, u.channel c = follows c (s.channel c)) ∧ keepsFrame u) ∧
    (code = 1 → s.executor.opState = .safe → leaveCheck s = none →
      exec .setState s = .next (answer
        (asked.setExecutor { asked.executor with opState := .standby }))) ∧
    (code = 1 ∨ code = 2 → s.executor.opState = .safe → ∀ x, leaveCheck s = some x →
      ∀ target : OpState, target.code = code → exec .setState s = .next (placeReply r
        ⟨.safeCheck, be 1 code ++ be 1 x.item ++ be 1 (carCode x.position) ++ be 2 x.detail⟩
        (offerReport (.safeCheck target x.item x.position x.detail) asked)))

/-- R151: the check on leaving SAFE passes exactly where a position is enabled, the enabled positions
hold distinct units, their taps and previews fit the line, the intake table holds the two sensor roles
and odometry, and each enabled car that is not FAILED has reported READY within the hold count; and
the item it reports is the first that fails, with the position and the detail of that item: the lowest
enabled position that fails it, or none, and the shared unit id, the sum of tap offset and preview, the
first role missing, or the status age and the last unit state. -/
def Obligations.LeaveCheckPasses : Prop :=
  ∀ s : State,
    let cars := ∃ c, s.enabled c = true
    let units := ∀ c d, s.enabled c = true → s.enabled d = true → s.unitOf c = s.unitOf d → c = d
    let taps := ∀ c, s.enabled c = true →
      (s.carProfile c).tapOffset + (s.carProfile c).preview + 1 < s.profile.lineLength
    let held := fun (role : Role) => ∃ i : Fin 16, ∃ e ∈ s.intake[i].entry, e.role = role
    let roles := ∀ role ∈ [Role.sensorP, Role.sensorQ, Role.odometry], held role
    let ready := ∀ c, s.enabled c = true → (s.channel c).state ≠ .failed →
      (s.channel c).age < s.profile.holdCount ∧ (s.channel c).lastState = some .ready
    let lowest := fun (x : CheckFailure) (detail : Car → Nat) (fails : Car → Prop) =>
      ∃ c, x.position = some c ∧ x.detail = detail c ∧ s.enabled c = true ∧ fails c ∧
        ∀ d, d < c → s.enabled d = true → ¬fails d
    (leaveCheck s = none ↔ cars ∧ units ∧ taps ∧ roles ∧ ready) ∧
    ∀ x, leaveCheck s = some x →
      (x.item = 1 ↔ ¬cars) ∧ (x.item = 2 ↔ cars ∧ ¬units) ∧ (x.item = 3 ↔ cars ∧ units ∧ ¬taps) ∧
      (x.item = 4 ↔ cars ∧ units ∧ taps ∧ ¬roles) ∧
      (x.item = 5 ↔ cars ∧ units ∧ taps ∧ roles ∧ ¬ready) ∧
      (x.item = 1 → x.position = none ∧ x.detail = 0) ∧
      (x.item = 2 → lowest x (fun c => (s.unitOf c).val)
        (fun c => ∃ d, d < c ∧ s.enabled d = true ∧ s.unitOf d = s.unitOf c)) ∧
      (x.item = 3 → lowest x (fun c => (s.carProfile c).tapOffset + (s.carProfile c).preview)
        (fun c => s.profile.lineLength ≤ (s.carProfile c).tapOffset + (s.carProfile c).preview + 1)) ∧
      (x.item = 4 → x.position = none ∧ ∃ role : Role, x.detail = role.code ∧ ¬held role ∧
        (role = .sensorP ∨ role = .sensorQ ∧ held .sensorP ∨
          role = .odometry ∧ held .sensorP ∧ held .sensorQ)) ∧
      (x.item = 5 → lowest x
        (fun c => (s.channel c).age * 256 + unitStateCode (s.channel c).lastState)
        (fun c => (s.channel c).state ≠ .failed ∧
          (s.profile.holdCount ≤ (s.channel c).age ∨ (s.channel c).lastState ≠ some .ready)))

/-- R156, R158 with R16, R34, R52, R68, R89, R92, R108, R109, R129, R147, R166: a Warm Restart. Its
reply is the next frame of the fore port, and what the restart clears and what it keeps is gathered block
by block. Behind the reply go the STATE report, with cause WARM_RESTART and the channel states after the
restart, where it was taken in STANDBY or ACTIVE, and the reports of the answers to the line clear, as
`lineClear` offers them, which LineIsAnswered spells out. The order of the blocks and of these reports is
open (notes/assumptions/20.md and 4.md). -/
def Obligations.WarmRestartRestarts : Prop :=
  ∀ (s : State) (r : Request) (rest : List Request), Serves s .warmRestart r rest →
    let reply := replyFrame r (.bare .ok) s
    ∃ t, exec .warmRestart s = .next t ∧
    t.executor = { opState := .safe, queue := rest } ∧
    (if s.ports.foreTx = none then t.ports.foreTx = some reply
      else t.ports.foreTx = s.ports.foreTx ∧ t.ports.foreQueue.head? = some reply) ∧
    t.ports.aftQueue = [] ∧ t.ports.waiting = none ∧ t.ports.reservation = false ∧
    t.ports.aftTx = s.ports.aftTx ∧ t.ports.aftSeq = s.ports.aftSeq ∧
    (t.odo.state = .unset ∧ t.odo.remainder = 0 ∧ t.odo.debt = 0 ∧ t.odo.speed = 0 ∧
      t.odo.timeout = none ∧ t.odo.uncertain = false ∧ t.odo.recovery = 0) ∧
    t.sensor =
      { chP :=
          { state := .absent, settle := 0, latest := none, paired := false, timeout := none },
        chQ := { state := .absent, settle := 0, latest := none, paired := false, timeout := none },
        pairState := .none, window := [], disagreeRun := 0,
        agreeRun := 0 } ∧
    t.line = s.line.cleared ∧
    (t.marker =
      { s.marker with queue := [], attention := none, loss := false, cars := t.marker.cars } ∧
      ∀ c, t.regime c = { regime := 0, authority := .limited, waiting := none }) ∧
    (∀ bank : Bank, t.route.bank bank =
      if (s.route.bank bank).state = .inUse ∨ (s.route.bank bank).state = .draining then
        { s.route.bank bank with state := .free } else s.route.bank bank) ∧
    t.capture = { s.capture with state := .idle } ∧
    (t.demand =
      { s.demand with
        last := Vector.replicate 12 none,
        gateOpen := if s.profile.vOn = 0 then true
          else if s.profile.hysteresis < s.profile.vOn then false else s.demand.gateOpen }) ∧
    (t.cars = { s.cars with channels := t.cars.channels } ∧ ∀ c, t.channel c =
      { s.channel c with
        thetaPrev := 0, run := 0, parkHeld := false,
        state := if (s.channel c).state = .off ∨ (s.channel c).state = .failed then
          (s.channel c).state else .parked }) ∧
    t.pins = s.pins ∧ t.nodeAddress = s.nodeAddress ∧ t.counters = s.counters ∧
    t.intake = s.intake ∧ t.profile = s.profile ∧ t.pending = s.pending ∧
    let emptied : Ports :=
      { s.ports with
        foreTx := if s.ports.foreTx = none then some reply else s.ports.foreTx,
        foreQueue := if s.ports.foreTx = none then [] else [reply],
        foreSeq := s.ports.foreSeq + 1, aftQueue := [], waiting := none, reservation := false }
    let restarted := (((((s.setExecutor t.executor).setPorts emptied).setOdo t.odo).setSensor
      t.sensor).setDemand t.demand).setCars t.cars
    let cleared := lineClear
      (if s.executor.opState = .safe then none
        else some (.state s.executor.opState .safe .warmRestart
          (allCars.map (fun c => (t.channel c).state)))) restarted
    t = cleared.setMarker
      { cleared.marker with
        loss := false,
        cars := Vector.replicate 12 { regime := 0, authority := .limited, waiting := none } }

/-- R157, R55, R65: Set Line Profile. It is refused outside SAFE and out of range; else every
field takes its written value, and a line length different from the one in force comes with a line
clear, whose answers' reports go before the reply. Those reports use the destination just written
(notes/assumptions/15.md). -/
def Obligations.SetLineProfileOutcomes : Prop :=
  ∀ (s : State) (r : Request) (rest : List Request), Serves s .setLineProfile r rest →
    let p := r.payload
    let fits :=
      (field p 0 2 = 1024 ∨ field p 0 2 = 2048 ∨ field p 0 2 = 4096) ∧
      (field p 2 1 = 5 ∨ field p 2 1 = 10 ∨ field p 2 1 = 20) ∧ field p 3 2 ≤ 400 ∧
      field p 5 1 ≤ 40 ∧ field p 6 2 ≤ 16380 ∧ (1 ≤ field p 8 1 ∧ field p 8 1 ≤ 32) ∧
      (50 ≤ field p 9 2 ∧ field p 9 2 ≤ 2000) ∧ (2 ≤ field p 11 1 ∧ field p 11 1 ≤ 15) ∧
      (10 ≤ field p 12 1 ∧ field p 12 1 ≤ 100) ∧ field p 13 2 ≤ 1000 ∧
      (1 ≤ field p 15 1 ∧ field p 15 1 ≤ 50) ∧
      field p 16 2 % 16 = 0 ∧ 16 ≤ field p 16 2 ∧ field p 16 2 + 16 ≤ field p 0 2
    let written : LineProfile :=
      { lineLength := field p 0 2, commandPeriod := field p 2 1, vOn := field p 3 2,
        hysteresis := field p 5 1, threshold := field p 6 2, heldLimit := field p 8 1,
        attentionTimeout := field p 9 2, holdCount := field p 11 1, failCount := field p 12 1,
        trackingLimit := field p 13 2, trackingCount := field p 15 1,
        captureLength := field p 16 2, reportDestination := BitVec.ofNat 8 (field p 18 1) }
    (s.executor.opState ≠ .safe →
      exec .setLineProfile s = .next (s.answered r rest (.bare .wrongState))) ∧
    (s.executor.opState = .safe → ¬fits →
      exec .setLineProfile s = .next (s.answered r rest (.bare .range))) ∧
    (s.executor.opState = .safe → fits →
      (written.lineLength = s.profile.lineLength → exec .setLineProfile s =
        .next ((s.answered r rest (.bare .ok)).setProfile written)) ∧
      (written.lineLength ≠ s.profile.lineLength → ∃ t, exec .setLineProfile s = .next t ∧
        t = placeReply r (.bare .ok) (lineClear none ((s.taken rest).setProfile written)) ∧
        t.profile = written ∧ t.line = s.line.cleared ∧ t.marker.queue = [] ∧
        t.marker.attention = none ∧ t.capture = { s.capture with state := .idle } ∧
        (∀ bank, (t.route.bank bank).state ≠ .inUse ∧ (t.route.bank bank).state ≠ .draining) ∧
        t.intake = s.intake ∧
        t.odo = s.odo ∧ t.sensor = s.sensor ∧ t.demand = s.demand ∧ t.cars = s.cars))

/-! ## Requests about cars -/

/-- R139, R140, R80, R90, R145: Set Car Profile: its refusals in their order, and its effect by the
state of the car and the enabled field written. A car that enters PARKED or OFF has its unit's entry in
a COMMAND frame that waits rewritten to PARK (R145). A disabled car leaves every pending set, its hold is
withdrawn, and a pass follows before the OK reply is placed. Where this frees both banks, the order is the
model's choice (notes/assumptions/23.md). -/
def Obligations.SetCarProfileOutcomes : Prop :=
  ∀ (s : State) (r : Request) (rest : List Request), Serves s .setCarProfile r rest →
    let p := r.payload
    (11 < field p 0 1 → exec .setCarProfile s = .next (s.answered r rest (.bare .range))) ∧
    ∀ c : Car, field p 0 1 = c.val →
      (1 < field p 1 1 → exec .setCarProfile s = .next (s.answered r rest (.bare .format))) ∧
      ∀ enabled : Bool, field p 1 1 = boolCode enabled →
      let written : CarProfile :=
        { enabled := enabled, tapOffset := field p 2 2, preview := field p 4 1,
          gain := field p 5 2, fullLimit := field p 7 2, limitedLimit := field p 9 2,
          rateStep := field p 11 1, weight := field p 12 2 }
      let fits := written.tapOffset ≤ 4095 ∧ written.preview ≤ 63 ∧ written.gain ≤ 4095 ∧
        written.fullLimit ≤ 1000 ∧ written.limitedLimit ≤ written.fullLimit ∧
        1 ≤ written.rateStep ∧ written.rateStep ≤ 50 ∧ written.weight ≤ 256 ∧
        written.tapOffset + 1 < s.profile.lineLength
      let x := s.channel c
      let moving := x.state = .following ∨ x.state = .centring ∨ x.state = .hold
      let clash := s.executor.opState ≠ .safe ∧ x.state = .off ∧ enabled = true ∧
        ∃ d, d ≠ c ∧ s.enabled d = true ∧ s.unitOf d = s.unitOf c
      let waits := s.ports.waiting.map
        (fun w => { w with entries := w.entries.set (s.unitOf c) { mode := .park, angle := 0 } })
      let handed := if s.ports.waiting = none then s.cars.lastHanded
        else s.cars.lastHanded.set (s.unitOf c) { mode := .park, angle := 0 }
      let profiled := fun (u : State) =>
        u.setDemand { u.demand with profiles := u.demand.profiles.set c written }
      (¬fits → exec .setCarProfile s = .next (s.answered r rest (.bare .range))) ∧
      (fits → moving →
        exec .setCarProfile s = .next (s.answered r rest (.bare .notParked))) ∧
      (fits → clash → exec .setCarProfile s = .next (s.answered r rest (.bare .format))) ∧
      (fits → (x.state = .off ∧ enabled = false ∨
          (x.state = .parked ∨ x.state = .failed) ∧ enabled = true) →
        exec .setCarProfile s = .next (profiled (s.answered r rest (.bare .ok)))) ∧
      (fits → ¬clash → x.state = .off → enabled = true → ∃ t, exec .setCarProfile s = .next t ∧
        t.channel c =
          { state := .parked, thetaPrev := 0, lastState := none, lastActual := none,
            lastEcho := none, age := 0, run := 0, parkHeld := false } ∧
        t.regime c = { regime := 0, authority := .limited, waiting := none } ∧
        t.carProfile c = written ∧
        (∀ d, d ≠ c → t.channel d = s.channel d ∧ t.regime d = s.regime d ∧
          t.carProfile d = s.carProfile d) ∧
        t = (((profiled (s.answered r rest (.bare .ok))).setCars
          { s.cars with channels := t.cars.channels, lastHanded := handed }).setMarker
          { s.marker with cars := t.marker.cars }).setPorts
          { (s.answered r rest (.bare .ok)).ports with waiting := waits }) ∧
      (fits → ¬moving → x.state ≠ .off → enabled = false →
        let off := ((profiled (s.taken rest)).setCars
          { s.cars with
            channels := s.cars.channels.set c
              { x with state := .off, thetaPrev := 0, parkHeld := false },
            lastHanded := handed }).setPorts { (s.taken rest).ports with waiting := waits }
        let left := dropEmptied false (off.setMarker
          { s.marker with
            queue := s.marker.queue.map
              (fun m => { m with pending := m.pending.filter (fun d => d ≠ c) }) })
        let free := match s.marker.attention with
          | some hold => if hold.car = c then
              offerReport (.attentionEnd .withdrawn hold.serial c (s.regime c).regime
                (s.regime c).authority) (left.setMarker { left.marker with attention := none })
            else left
          | none => left
        ∃ t, exec .setCarProfile s = .next t ∧
        t = placeReply r (.bare .ok) (pass false (free.setMarker
          { free.marker with
            cars := free.marker.cars.set c { s.regime c with waiting := none } })) ∧
        t.channel c = { x with state := .off, thetaPrev := 0, parkHeld := false } ∧
        t.carProfile c = written ∧ (t.regime c).waiting = none ∧
        (∀ m ∈ t.marker.queue, c ∉ m.pending) ∧
        (∀ hold ∈ t.marker.attention, hold.car ≠ c) ∧
        (∀ d, d ≠ c → t.channel d = s.channel d ∧ t.carProfile d = s.carProfile d) ∧
        t.cars.order = s.cars.order ∧ t.line = s.line ∧ t.odo = s.odo ∧ t.sensor = s.sensor ∧
        t.intake = s.intake ∧ t.profile = s.profile)

/-- R142: Set Car Order. It is refused outside SAFE, for a unit id above 11, and for a map that gives
two enabled positions one unit; else the map is replaced, and a position whose unit changes loses the
status of its old unit. -/
def Obligations.SetCarOrderOutcomes : Prop :=
  ∀ (s : State) (r : Request) (rest : List Request), Serves s .setCarOrder r rest →
    let id := fun (c : Car) => field r.payload c.val 1
    (s.executor.opState ≠ .safe →
      exec .setCarOrder s = .next (s.answered r rest (.bare .wrongState))) ∧
    (s.executor.opState = .safe → (∃ c, 11 < id c) →
      exec .setCarOrder s = .next (s.answered r rest (.bare .range))) ∧
    (s.executor.opState = .safe → (∀ c, id c ≤ 11) →
      (∃ c d, c ≠ d ∧ s.enabled c = true ∧ s.enabled d = true ∧ id c = id d) →
      exec .setCarOrder s = .next (s.answered r rest (.bare .format))) ∧
    (s.executor.opState = .safe → (∀ c, id c ≤ 11) →
      (∀ c d, s.enabled c = true → s.enabled d = true → id c = id d → c = d) →
      ∃ t, exec .setCarOrder s = .next t ∧ (∀ c, (t.unitOf c).val = id c) ∧
        (∀ c, t.channel c = if (s.unitOf c).val = id c then s.channel c else
          { s.channel c with
            lastState := none, lastActual := none, lastEcho := none, age := 0,
            run := 0 }) ∧
        t = (s.answered r rest (.bare .ok)).setCars
          { s.cars with channels := t.cars.channels, order := t.cars.order })

/-- R138: Clear Car, with its refusals in their order. A FAILED car in SAFE or STANDBY becomes PARKED
with θ_prev and tracking run 0; its status age and status fields, its profile, its regime record and
the marker queue are kept, and nothing else changes but its unit's entry in a COMMAND frame that
waits (R145). -/
def Obligations.ClearCarOutcomes : Prop :=
  ∀ (s : State) (r : Request) (rest : List Request), Serves s .clearCar r rest →
    let ok := s.answered r rest (.bare .ok)
    (11 < field r.payload 0 1 →
      exec .clearCar s = .next (s.answered r rest (.bare .range))) ∧
    ∀ c : Car, field r.payload 0 1 = c.val →
      (s.executor.opState = .active →
        exec .clearCar s = .next (s.answered r rest (.bare .wrongState))) ∧
      (s.executor.opState ≠ .active → (s.channel c).state ≠ .failed →
        exec .clearCar s = .next (s.answered r rest (.bare .nothingPending))) ∧
      (s.executor.opState ≠ .active → (s.channel c).state = .failed →
        ∃ t, exec .clearCar s = .next t ∧
        t.channel c =
          { s.channel c with state := .parked, thetaPrev := 0, run := 0, parkHeld := false } ∧
        (∀ d, d ≠ c → t.channel d = s.channel d) ∧
        (s.ports.waiting = none → t.ports.waiting = none ∧
          t.cars.lastHanded = s.cars.lastHanded) ∧
        (∀ w ∈ s.ports.waiting,
          t.ports.waiting = some
            { w with entries := w.entries.set (s.unitOf c) { mode := .park, angle := 0 } } ∧
          t.cars.lastHanded =
            s.cars.lastHanded.set (s.unitOf c) { mode := .park, angle := 0 }) ∧
        t = (ok.setCars
          { s.cars with channels := t.cars.channels, lastHanded := t.cars.lastHanded }).setPorts
          { ok.ports with waiting := t.ports.waiting })

/-! ## Requests that load tables -/

/-- R5, R4, R178: Set Intake Entry. Undefined fields that are read are refused FORMAT first; then
the three tests of R5; then the entry stands at its index with its sequence memory absent. That
FORMAT comes first is read from R178 (notes/assumptions/14.md). -/
def Obligations.SetIntakeEntryOutcomes : Prop :=
  ∀ (s : State) (r : Request) (rest : List Request), Serves s .setIntakeEntry r rest →
    let p := r.payload
    let refused := fun (c : ReplyCode) => exec .setIntakeEntry s = .next (s.answered r rest (.bare c))
    let written := fun (i : Fin 16) (e : Option IntakeEntry) => exec .setIntakeEntry s =
      .next ((s.answered r rest (.bare .ok)).setIntake
        (s.intake.set i { entry := e, memory := none }))
    let defined := field p 1 1 = 0 ∨ field p 1 1 = 1 ∧ field p 4 1 ≤ 5 ∧ field p 5 1 ≤ 1
    (¬defined → refused .format) ∧
    (defined → s.executor.opState ≠ .safe → refused .wrongState) ∧
    (defined → s.executor.opState = .safe → 15 < field p 0 1 → refused .range) ∧
    ∀ i : Fin 16, field p 0 1 = i.val → s.executor.opState = .safe →
      (field p 1 1 = 0 → written i none) ∧
      ∀ (role : Role) (fwd : Bool), field p 1 1 = 1 → field p 4 1 = role.code →
        field p 5 1 = boolCode fwd →
        let e : IntakeEntry :=
          { source := BitVec.ofNat 8 (field p 2 1), cls := BitVec.ofNat 8 (field p 3 1),
            role := role, forward := fwd }
        let roleCls : Byte := match role with
          | .sensorP => 0x10
          | .sensorQ => 0x10
          | .odometry => 0x11
          | .markerReader => 0x12
          | .unitStatus => 0x21
          | .manager => 0x30
        let clash := e.cls ≠ roleCls ∨ ∃ j : Fin 16, j ≠ i ∧ ∃ x ∈ s.intake[j].entry,
          x.source = e.source ∧ x.cls = e.cls ∨
          x.role = role ∧ role ∈ [Role.sensorP, Role.sensorQ, Role.odometry]
        (clash → refused .format) ∧ (¬clash → written i (some e))

/-- R76, R79: Clear Marker Loss, and Set Regime Entry with its refusals. -/
def Obligations.MarkerTableRequests : Prop :=
  ∀ (s : State) (r : Request) (rest : List Request),
    (Serves s .clearMarkerLoss r rest → exec .clearMarkerLoss s =
      .next ((s.answered r rest (.bare .ok)).setMarker { s.marker with loss := false })) ∧
    (Serves s .setRegimeEntry r rest →
      let p := r.payload
      let defined := field p 3 1 ≤ 2 ∧ field p 4 1 ≤ 1 ∧ field p 5 1 ≤ 1
      (¬defined → exec .setRegimeEntry s = .next (s.answered r rest (.bare .format))) ∧
      (defined → 7 < field p 0 1 ∨ 15 < field p 1 1 ∨ 7 < field p 2 1 →
        exec .setRegimeEntry s = .next (s.answered r rest (.bare .range))) ∧
      ∀ (regime next : Regime) (cls : MarkerClass) (authority : Authority) (attention capture : Bool),
        field p 0 1 = regime.val → field p 1 1 = cls.val → field p 2 1 = next.val →
        field p 3 1 = authority.code → field p 4 1 = boolCode attention →
        field p 5 1 = boolCode capture →
        ∃ t, exec .setRegimeEntry s = .next t ∧
          t.entry regime cls =
            { next := next, authority := authority, attention := attention, capture := capture }
              ∧
          (∀ x y, (x, y) ≠ (regime, cls) → t.entry x y = s.entry x y) ∧
          t = (s.answered r rest (.bare .ok)).setMarker
            { s.marker with table := t.marker.table })

/-- R86, R178: Attention Release. With undefined fields it is refused FORMAT, with a next regime
above 7 RANGE; a serial that the record does not hold is answered TOO_LATE where it is the last
timed out, else NOTHING_PENDING; and a release has the held car apply the replacement, or else the
copy, by `applyEntry`, which PassAppliesMarkers spells out (R75, R82, R162), and stop waiting, and the
record empties, before a pass. That FORMAT comes first is read from R178 (notes/assumptions/14.md), and
the order of the reports of one application from R82 (notes/assumptions/17.md). -/
def Obligations.AttentionReleaseOutcomes : Prop :=
  ∀ (s : State) (r : Request) (rest : List Request), Serves s .attentionRelease r rest →
    let p := r.payload
    let serial := field p 0 2
    let refused := fun (c : ReplyCode) =>
      exec .attentionRelease s = .next (s.answered r rest (.bare c))
    let defined := field p 2 1 = 0 ∨
      field p 2 1 = 1 ∧ field p 4 1 ≤ 2 ∧ field p 5 1 ≤ 1 ∧ field p 6 1 ≤ 1
    let ranged := field p 2 1 = 0 ∨ field p 3 1 ≤ 7
    (¬defined → refused .format) ∧ (defined → ¬ranged → refused .range) ∧
    (defined → ranged → (∀ hold ∈ s.marker.attention, hold.serial ≠ serial) →
      (s.marker.lastTimedOut = some serial → refused .tooLate) ∧
      (s.marker.lastTimedOut ≠ some serial → refused .nothingPending)) ∧
    (defined → ranged → ∀ hold, s.marker.attention = some hold → hold.serial = serial →
      ∀ e : RegimeEntry,
      (field p 2 1 = 0 ∧ e = hold.copy ∨ field p 2 1 = 1 ∧ field p 3 1 = e.next.val ∧
        field p 4 1 = e.authority.code ∧ field p 5 1 = boolCode e.attention ∧
        field p 6 1 = boolCode e.capture) →
      let applied := applyEntry false hold.car serial e (s.taken rest)
      let u := applied.setMarker
        { applied.marker with
          attention := none,
          cars := applied.marker.cars.set hold.car
            { regime := e.next, authority := e.authority, waiting := none } }
      exec .attentionRelease s = .next (placeReply r (.bare .ok) (pass false u)) ∧
        u.regime hold.car = { regime := e.next, authority := e.authority, waiting := none } ∧
        (∀ d, d ≠ hold.car → u.regime d = s.regime d) ∧ u.marker.attention = none ∧
        (∀ m ∈ u.marker.queue, m.serial = serial → hold.car ∉ m.pending) ∧
        u.marker.serialCounter = s.marker.serialCounter ∧ u.marker.table = s.marker.table ∧
        u.marker.loss = s.marker.loss ∧ u.marker.lastTimedOut = s.marker.lastTimedOut ∧
        u = (((((s.taken rest).setPorts u.ports).setCounters u.counters).setRoute
          u.route).setCapture u.capture).setMarker u.marker)

/-! ## Route requests -/

/-- R95, R178: Route Open. -/
def Obligations.RouteOpenOutcomes : Prop :=
  ∀ (s : State) (r : Request) (rest : List Request), Serves s .routeOpen r rest →
    let p := r.payload
    let refused := fun (c : ReplyCode) => exec .routeOpen s = .next (s.answered r rest (.bare c))
    (1 < field p 0 1 → refused .format) ∧
    ∀ bank : Bank, field p 0 1 = bank.code →
      ((s.route.bank bank).state ≠ .free → refused .busy) ∧
      ((s.route.bank bank).state = .free →
        (1 < field p 5 1 → refused .format) ∧
        (field p 5 1 ≤ 1 → field p 3 2 = 0 ∨ 15 < field p 8 1 ∨
          field p 5 1 = 1 ∧ 15 < field p 6 1 → refused .range) ∧
        ∀ (endClass : MarkerClass) (anchor : Option (MarkerClass × Byte)),
          field p 3 2 ≠ 0 → field p 8 1 = endClass.val →
          (field p 5 1 = 0 ∧ anchor = none ∨ field p 5 1 = 1 ∧ ∃ cls : MarkerClass,
            field p 6 1 = cls.val ∧ anchor = some (cls, BitVec.ofNat 8 (field p 7 1))) →
          exec .routeOpen s = .next ((s.answered r rest (.bare .ok)).setRoute
            (s.route.setBank bank
              { state := .loading, startCell := none, points := [],
                header := some
                  { sectionId := field p 1 2, length := field p 3 2, anchor := anchor,
                    endClass := endClass } })))

/-- R96: Route Points. The points that pass stand from the first index on, in the order sent, and
every other point of the list is kept. -/
def Obligations.RoutePointsOutcomes : Prop :=
  ∀ (s : State) (r : Request) (rest : List Request), Serves s .routePoints r rest →
    let p := r.payload
    let refused := fun (c : ReplyCode) => exec .routePoints s = .next (s.answered r rest (.bare c))
    let first := field p 1 1
    let count := field p 2 1
    let word := fun (i : Nat) => field p (3 + 6 * i + 4) 2
    let cant := fun (i : Nat) =>
      if word i % 4096 < 2048 then ((word i % 4096 : Nat) : Int)
      else ((word i % 4096 : Nat) : Int) - 4096
    (1 < field p 0 1 → refused .format) ∧
    ∀ bank : Bank, field p 0 1 = bank.code →
      let b := s.route.bank bank
      (b.state ≠ .loading → refused .wrongState) ∧
      (b.state = .loading → b.points.length < first → refused .range) ∧
      (b.state = .loading → first ≤ b.points.length → 256 < first + count → refused .range) ∧
      (b.state = .loading → first ≤ b.points.length → first + count ≤ 256 →
        ((∃ i, i < count ∧ 2 < word i / 4096) → refused .format) ∧
        ((∀ i, i < count → word i / 4096 ≤ 2) →
          (∃ i, i < count ∧ (cant i < -1024 ∨ 1023 < cant i)) → refused .range) ∧
        ((∀ i, i < count → word i / 4096 ≤ 2 ∧ -1024 ≤ cant i ∧ cant i ≤ 1023) →
          ∃ points : List Point, exec .routePoints s =
            .next ((s.answered r rest (.bare .ok)).setRoute
              (s.route.setBank bank { b with points := points })) ∧
            points.length = max b.points.length (first + count) ∧
            (∀ i, i < first ∨ first + count ≤ i → points[i]? = b.points[i]?) ∧
            ∀ i, i < count → ∃ x : Point, points[first + i]? = some x ∧
              x.offset = field p (3 + 6 * i) 2 ∧ x.k = fieldS p (3 + 6 * i + 2) 2 ∧
              x.c = cant i ∧ x.permit.code = word i / 4096))

/-- R97: Route Close. The point checks give FORMAT, a section check that differs gives CHECK_FAILED
with the check computed over the points as they are carried, and the bank stays LOADING; else it
becomes READY. -/
def Obligations.RouteCloseOutcomes : Prop :=
  ∀ (s : State) (r : Request) (rest : List Request), Serves s .routeClose r rest →
    let p := r.payload
    let refused := fun (a : Reply) => exec .routeClose s = .next (s.answered r rest a)
    (1 < field p 0 1 → refused (.bare .format)) ∧
    ∀ bank : Bank, field p 0 1 = bank.code →
      let b := s.route.bank bank
      let sound := b.points ≠ [] ∧ (∀ x ∈ b.points[0]?, x.offset = 0) ∧
        (∀ (i : Nat), ∀ x ∈ b.points[i]?, ∀ y ∈ b.points[i + 1]?, x.offset < y.offset) ∧
        ∀ x ∈ b.points[b.points.length - 1]?, x.offset < b.length
      let check := frameCheck (b.points.flatMap (fun x =>
        be 2 x.offset ++ beInt 2 x.k ++ be 2 (x.permit.code * 4096 + (x.c % 4096).toNat)))
      (b.state ≠ .loading → refused (.bare .wrongState)) ∧
      (b.state = .loading → ¬sound → refused (.bare .format)) ∧
      (b.state = .loading → sound → check.toNat ≠ field p 1 2 →
        refused ⟨.checkFailed, be 2 check.toNat⟩) ∧
      (b.state = .loading → sound → check.toNat = field p 1 2 → exec .routeClose s =
        .next ((s.answered r rest (.bare .ok)).setRoute
          (s.route.setBank bank { b with state := .ready })))

/-- R98: Route Discard. A LOADING or READY bank becomes FREE, with OK; an IN_USE or DRAINING bank is
refused BUSY and a FREE bank answered NOTHING_PENDING, and both stay as they were; an undefined bank
is refused FORMAT. No report is sent. -/
def Obligations.RouteDiscardOutcomes : Prop :=
  ∀ (s : State) (r : Request) (rest : List Request), Serves s .routeDiscard r rest →
    let refused := fun (c : ReplyCode) => exec .routeDiscard s = .next (s.answered r rest (.bare c))
    (1 < field r.payload 0 1 → refused .format) ∧
    ∀ bank : Bank, field r.payload 0 1 = bank.code →
      let b := s.route.bank bank
      (b.state = .loading ∨ b.state = .ready → exec .routeDiscard s =
        .next ((s.answered r rest (.bare .ok)).setRoute
          (s.route.setBank bank { b with state := .free }))) ∧
      (b.state = .inUse ∨ b.state = .draining → refused .busy) ∧
      (b.state = .free → refused .nothingPending)

/-! ## Capture requests -/

/-- R161, R168: Capture Start, its refusals in their order, and the capture it begins with its
TRIGGERED report, which goes before the reply. -/
def Obligations.CaptureStartOutcomes : Prop :=
  ∀ (s : State) (r : Request) (rest : List Request), Serves s .captureStart r rest →
    let p := r.payload
    let n := field p 1 2
    let x := fieldS p 3 6
    let input : Int := s.line.inputCell
    let busy := s.capture.state = .ready ∨ s.capture.state = .overtaken
    let fits := n % 16 = 0 ∧ 16 ≤ n ∧ n + 16 ≤ s.profile.lineLength
    let inside := (s.line.clearMark : Int) ≤ x ∧
      input - 1 - s.profile.lineLength + 16 < x ∧ x ≤ input - 1
    let refused := fun (c : ReplyCode) => exec .captureStart s = .next (s.answered r rest (.bare c))
    let begins := fun (mode : CapMode) (start stop : Int) =>
      let c : Capture :=
        { state := .ready, mode := mode, source := .request, car := none, serial := none,
          start := start, stop := stop, cursor := start }
      exec .captureStart s = .next (placeReply r ⟨.ok, beInt 6 start ++ beInt 6 stop⟩
        (offerReport (.capture .triggered .request none none (some c) none (input - 1)
          s.counters.capturesMissed) ((s.taken rest).setCapture c)))
    (1 < field p 0 1 → refused .format) ∧
    (field p 0 1 ≤ 1 → busy → refused .busy) ∧
    (field p 0 1 ≤ 1 → ¬busy → ¬fits → refused .range) ∧
    (field p 0 1 = 0 → ¬busy → fits → begins .relative (input - n) input) ∧
    (field p 0 1 = 1 → ¬busy → fits → ¬inside → refused .range) ∧
    (field p 0 1 = 1 → ¬busy → fits → inside → begins .absolute x (min (x + n) input))

/-- R163, R164: Capture Read in each capture state. A delivering read gives the tap reads of up to 8
cells from the read cursor upward, none of them a cell whose slot a later cell has taken. -/
def Obligations.CaptureReadOutcomes : Prop :=
  ∀ (s : State) (r : Request) (rest : List Request), Serves s .captureRead r rest →
    let c := s.capture
    let newest : Int := (s.line.inputCell : Int) - 1
    let n := min 8 (c.stop - c.cursor).toNat
    (c.state = .idle →
      exec .captureRead s = .next (s.answered r rest (.bare .nothingPending))) ∧
    (c.state = .done → exec .captureRead s = .next (s.answered r rest
      ⟨.ok, be 1 2 ++ beInt 6 c.cursor ++ beInt 6 c.stop ++ be 1 0⟩)) ∧
    (c.state = .overtaken →
      exec .captureRead s = .next (s.answered r rest (.bare .overtaken))) ∧
    (c.state = .ready → c.cursor < newest - s.profile.lineLength + 1 → exec .captureRead s =
      .next (placeReply r (.bare .overtaken)
        (offerReport (.capture .overtaken c.source c.car c.serial
          (some { c with state := .overtaken }) none newest s.counters.capturesMissed)
          ((s.taken rest).setCapture { c with state := .overtaken })))) ∧
    (c.state = .ready → newest - s.profile.lineLength + 1 ≤ c.cursor →
      (∀ i : Nat, i < n → newest < c.cursor + i + s.profile.lineLength) ∧
      let after : CapState := if c.stop ≤ c.cursor + n then .done else .ready
      exec .captureRead s = .next ((s.answered r rest
        ⟨.ok, be 1 after.code ++ beInt 6 (c.cursor + n) ++ beInt 6 c.stop ++ be 1 n ++
          ((List.range n).map (fun i => s.tapRead (c.cursor + (i : Int)))).flatMap
            (fun x => beInt 2 x.value ++ be 1 x.quality.code ++ be 1 x.samples)⟩).setCapture { c with cursor := c.cursor + n, state := after }))

/-- R165: Capture Release sets the capture record to IDLE in every state and is answered OK. It sends
no report. -/
def Obligations.CaptureReleaseEndsCapture : Prop :=
  ∀ (s : State) (r : Request) (rest : List Request), Serves s .captureRelease r rest →
    exec .captureRelease s =
      .next ((s.answered r rest (.bare .ok)).setCapture { s.capture with state := .idle })

/-! ## Requests that reach no block -/

/-- R172 cases 1 to 4, R169, R171: a denied request is answered DENIED, one of a wrong payload length
FORMAT, one whose envelope is too short FORMAT, one whose code names no request UNKNOWN, and none of
them changes anything but the request queue and the fore port. The command of a request that does not
stand at the head of the queue, or that cannot be taken, changes nothing (the model's choice,
notes/assumptions/1.md). R169, R171, R12, R3: a reply is a MGMT_REPLY frame to the source of the request,
with the code and tag echoed, the reply code and the reply payload; it takes the reserved place, releases
the reservation and takes the next fore transmit sequence. Section 12.3: the request codes and lengths. -/
def Obligations.RequestsRefusedBeforeOwner : Prop :=
  let index : List (RequestName × Nat × Nat) :=
    [(.readStatus, 0x01, 0), (.readCar, 0x02, 1), (.readMarkers, 0x03, 1), (.readBank, 0x04, 1),
      (.setState, 0x05, 1), (.warmRestart, 0x06, 0), (.setLineProfile, 0x07, 19),
      (.setCarProfile, 0x08, 14), (.setCarOrder, 0x09, 12), (.clearCar, 0x0A, 1),
      (.setIntakeEntry, 0x0B, 6), (.setRegimeEntry, 0x0C, 6), (.attentionRelease, 0x0D, 7),
      (.clearMarkerLoss, 0x0E, 0), (.routeOpen, 0x0F, 9), (.routeClose, 0x11, 3),
      (.routeDiscard, 0x12, 1), (.captureStart, 0x13, 9), (.captureRead, 0x14, 0),
      (.captureRelease, 0x15, 0)]
  (∀ (r : Request) (code : Nat), field r.envelope 0 1 = code → r.name =
    if r.envelope.length < 3 then none
    else if code = 0x10 then some .routePoints
    else (index.find? (fun x => x.2.1 = code)).map (·.1)) ∧
  (∀ p : List Byte, (∀ x ∈ index, lengthFits x.1 p = true ↔ p.length = x.2.2) ∧
    (lengthFits .routePoints p = true ↔ 3 ≤ p.length ∧ 1 ≤ field p 2 1 ∧ field p 2 1 ≤ 8 ∧
      p.length = 3 + 6 * field p 2 1)) ∧
  ([ReplyCode.ok, .wrongState, .notParked, .busy, .range, .format, .denied, .checkFailed,
    .safeCheck, .tooLate, .nothingPending, .overtaken, .unknown].map ReplyCode.code =
      List.range 13) ∧
  (∀ (r : Request) (a : Reply) (s : State),
    replyFrame r a s = madeFrame s.nodeAddress r.source 0x31 s.ports.foreSeq
      ([r.envelope.getD 0 0, r.envelope.getD 1 0, r.envelope.getD 2 0] ++ be 1 a.code.code ++
        a.payload) ∧
    placeReply r a s = s.setPorts
      { Ports.foreAdmit { s.ports with reservation := false } (replyFrame r a s) with
        foreSeq := s.ports.foreSeq + 1 } ∧
    ∀ rest, Heads s r rest → s.answered r rest a = placeReply r a (s.taken rest)) ∧
  ∀ s : State,
    (∀ (name : RequestName) (r : Request) (rest : List Request), Heads s r rest →
      r.name = some name →
      (r.accepted = false →
        exec name.command s = .next (s.answered r rest (.bare .denied))) ∧
      (r.accepted = true → lengthFits name r.payload = false →
        exec name.command s = .next (s.answered r rest (.bare .format)))) ∧
    (∀ (r : Request) (rest : List Request), Heads s r rest → r.name = none →
      exec .unknownRequest s = .next (s.answered r rest (.bare
        (if r.accepted = false then .denied
         else if r.envelope.length < 3 then .format else .unknown)))) ∧
    (∀ name : RequestName, (∀ r rest, Heads s r rest → r.name ≠ some name) →
      exec name.command s = .next s) ∧
    ((∀ r rest, Heads s r rest → r.name ≠ none) → exec .unknownRequest s = .next s)

/-! ## What every step keeps -/

/-- R53, R54, R57: every step keeps the line sound. -/
def Obligations.LineStaysSound : Prop :=
  ∀ s t : State, LineSound s → step s = .next t → LineSound t

/-- R10, R12, R14, R170, R171, R174: every step keeps the queues within their places, leaves no reply
reservation behind it, and keeps every counter within its range. -/
def Obligations.PortsStaySound : Prop :=
  ∀ s t : State, PortsSound s → step s = .next t → PortsSound t

/-- R4, R5, R139, R157: every step keeps the loaded intake table and the profiles within the rules
that loaded them. -/
def Obligations.LoadedTablesStaySound : Prop :=
  ∀ s t : State, step s = .next t →
    (IntakeSound s → IntakeSound t) ∧ (ProfilesSound s → ProfilesSound t)

/-- R18 to R30, R36 to R47: every step keeps the odometry record and the sensor monitor sound. -/
def Obligations.InputsStaySound : Prop :=
  ∀ s t : State, step s = .next t →
    (OdometrySound s → OdometrySound t) ∧ (SensorSound s → SensorSound t)

/-- R74, R75: every step keeps the marker queue in order. -/
def Obligations.MarkerQueueStaysSound : Prop :=
  ∀ s t : State, CarsSound s → QueueSound s → step s = .next t → QueueSound t

/-- R73, R74, R83, R84, R106: every step keeps the serials of the queued markers consecutive, the
SECTION_END markers one to a DRAINING bank, and each waiting car on its oldest marker. -/
def Obligations.SerialsStaySound : Prop :=
  ∀ s t : State, CarsSound s → QueueSound s → BanksSound s → SerialsSound s →
    step s = .next t → SerialsSound t

/-- R93, R97, R101: every step keeps at most one bank IN_USE, no cell inside the sections of two banks, a
header and a start cell where a section lies on the line, and the checked points of a section. That no
notice is left in the model's own field between two steps (notes/assumptions/10.md), and that end cells
are compared as unbounded numbers (notes/assumptions/21.md), is the model's choice. -/
def Obligations.BanksStaySound : Prop :=
  ∀ s t : State, BanksSound s → step s = .next t → BanksSound t

/-- R115, R130, R148: every step keeps each car's channel state within what the operating state and
its profile allow, and its angle within its full limit. -/
def Obligations.CarsStaySound : Prop :=
  ∀ s t : State, ProfilesSound s → CarsSound s → step s = .next t → CarsSound t

/-- R141, R144, R145: every step keeps the enabled cars on distinct units outside SAFE, every frame
handed in SAFE all PARK, and each car that is not at rest at the angle its unit was last handed. -/
def Obligations.HandedFramesStaySound : Prop :=
  ∀ s t : State, ProfilesSound s → CarsSound s → HandedSound s → step s = .next t →
    HandedSound t

/-- R160 to R165: every step keeps the capture record sound. -/
def Obligations.CaptureStaysSound : Prop :=
  ∀ s t : State, ProfilesSound s → CaptureSound s → step s = .next t → CaptureSound t

/-- The part right after reset meets every condition that the statements above say each step keeps. -/
def Obligations.ResetMeetsEveryCondition : Prop :=
  let s := State.reset
  LineSound s ∧ PortsSound s ∧ IntakeSound s ∧ ProfilesSound s ∧ OdometrySound s ∧ SensorSound s ∧
    QueueSound s ∧ SerialsSound s ∧ BanksSound s ∧ CarsSound s ∧ HandedSound s ∧ CaptureSound s

end Statements
end

