-- ==== Sys2Proof/Laws/State.lean ====
section
/-! SUPPORT. One lemma per field per update of State, true by rfl, so that no later proof unfolds a
record update. -/

namespace Sys2Proof.Machine

@[simp] theorem State.setPins_pins (s : State) (x : Pins) : (s.setPins x).pins = x := rfl
@[simp] theorem State.setPins_nodeAddress (s : State) (x : Pins) : (s.setPins x).nodeAddress = s.nodeAddress := rfl
@[simp] theorem State.setPins_ports (s : State) (x : Pins) : (s.setPins x).ports = s.ports := rfl
@[simp] theorem State.setPins_counters (s : State) (x : Pins) : (s.setPins x).counters = s.counters := rfl
@[simp] theorem State.setPins_intake (s : State) (x : Pins) : (s.setPins x).intake = s.intake := rfl
@[simp] theorem State.setPins_profile (s : State) (x : Pins) : (s.setPins x).profile = s.profile := rfl
@[simp] theorem State.setPins_odo (s : State) (x : Pins) : (s.setPins x).odo = s.odo := rfl
@[simp] theorem State.setPins_sensor (s : State) (x : Pins) : (s.setPins x).sensor = s.sensor := rfl
@[simp] theorem State.setPins_line (s : State) (x : Pins) : (s.setPins x).line = s.line := rfl
@[simp] theorem State.setPins_marker (s : State) (x : Pins) : (s.setPins x).marker = s.marker := rfl
@[simp] theorem State.setPins_route (s : State) (x : Pins) : (s.setPins x).route = s.route := rfl
@[simp] theorem State.setPins_demand (s : State) (x : Pins) : (s.setPins x).demand = s.demand := rfl
@[simp] theorem State.setPins_cars (s : State) (x : Pins) : (s.setPins x).cars = s.cars := rfl
@[simp] theorem State.setPins_capture (s : State) (x : Pins) : (s.setPins x).capture = s.capture := rfl
@[simp] theorem State.setPins_executor (s : State) (x : Pins) : (s.setPins x).executor = s.executor := rfl
@[simp] theorem State.setPins_book (s : State) (x : Pins) : (s.setPins x).book = s.book := rfl
@[simp] theorem State.setPins_pending (s : State) (x : Pins) : (s.setPins x).pending = s.pending := rfl
@[simp] theorem State.setPins_self (s : State) : s.setPins s.pins = s := rfl
@[simp] theorem State.setPins_setPins (s : State) (x y : Pins) : (s.setPins x).setPins y = s.setPins y := rfl

@[simp] theorem State.setNodeAddress_pins (s : State) (x : Byte) : (s.setNodeAddress x).pins = s.pins := rfl
@[simp] theorem State.setNodeAddress_nodeAddress (s : State) (x : Byte) : (s.setNodeAddress x).nodeAddress = x := rfl
@[simp] theorem State.setNodeAddress_ports (s : State) (x : Byte) : (s.setNodeAddress x).ports = s.ports := rfl
@[simp] theorem State.setNodeAddress_counters (s : State) (x : Byte) : (s.setNodeAddress x).counters = s.counters := rfl
@[simp] theorem State.setNodeAddress_intake (s : State) (x : Byte) : (s.setNodeAddress x).intake = s.intake := rfl
@[simp] theorem State.setNodeAddress_profile (s : State) (x : Byte) : (s.setNodeAddress x).profile = s.profile := rfl
@[simp] theorem State.setNodeAddress_odo (s : State) (x : Byte) : (s.setNodeAddress x).odo = s.odo := rfl
@[simp] theorem State.setNodeAddress_sensor (s : State) (x : Byte) : (s.setNodeAddress x).sensor = s.sensor := rfl
@[simp] theorem State.setNodeAddress_line (s : State) (x : Byte) : (s.setNodeAddress x).line = s.line := rfl
@[simp] theorem State.setNodeAddress_marker (s : State) (x : Byte) : (s.setNodeAddress x).marker = s.marker := rfl
@[simp] theorem State.setNodeAddress_route (s : State) (x : Byte) : (s.setNodeAddress x).route = s.route := rfl
@[simp] theorem State.setNodeAddress_demand (s : State) (x : Byte) : (s.setNodeAddress x).demand = s.demand := rfl
@[simp] theorem State.setNodeAddress_cars (s : State) (x : Byte) : (s.setNodeAddress x).cars = s.cars := rfl
@[simp] theorem State.setNodeAddress_capture (s : State) (x : Byte) : (s.setNodeAddress x).capture = s.capture := rfl
@[simp] theorem State.setNodeAddress_executor (s : State) (x : Byte) : (s.setNodeAddress x).executor = s.executor := rfl
@[simp] theorem State.setNodeAddress_book (s : State) (x : Byte) : (s.setNodeAddress x).book = s.book := rfl
@[simp] theorem State.setNodeAddress_pending (s : State) (x : Byte) : (s.setNodeAddress x).pending = s.pending := rfl
@[simp] theorem State.setNodeAddress_self (s : State) : s.setNodeAddress s.nodeAddress = s := rfl
@[simp] theorem State.setNodeAddress_setNodeAddress (s : State) (x y : Byte) : (s.setNodeAddress x).setNodeAddress y = s.setNodeAddress y := rfl

@[simp] theorem State.setPorts_pins (s : State) (x : Ports) : (s.setPorts x).pins = s.pins := rfl
@[simp] theorem State.setPorts_nodeAddress (s : State) (x : Ports) : (s.setPorts x).nodeAddress = s.nodeAddress := rfl
@[simp] theorem State.setPorts_ports (s : State) (x : Ports) : (s.setPorts x).ports = x := rfl
@[simp] theorem State.setPorts_counters (s : State) (x : Ports) : (s.setPorts x).counters = s.counters := rfl
@[simp] theorem State.setPorts_intake (s : State) (x : Ports) : (s.setPorts x).intake = s.intake := rfl
@[simp] theorem State.setPorts_profile (s : State) (x : Ports) : (s.setPorts x).profile = s.profile := rfl
@[simp] theorem State.setPorts_odo (s : State) (x : Ports) : (s.setPorts x).odo = s.odo := rfl
@[simp] theorem State.setPorts_sensor (s : State) (x : Ports) : (s.setPorts x).sensor = s.sensor := rfl
@[simp] theorem State.setPorts_line (s : State) (x : Ports) : (s.setPorts x).line = s.line := rfl
@[simp] theorem State.setPorts_marker (s : State) (x : Ports) : (s.setPorts x).marker = s.marker := rfl
@[simp] theorem State.setPorts_route (s : State) (x : Ports) : (s.setPorts x).route = s.route := rfl
@[simp] theorem State.setPorts_demand (s : State) (x : Ports) : (s.setPorts x).demand = s.demand := rfl
@[simp] theorem State.setPorts_cars (s : State) (x : Ports) : (s.setPorts x).cars = s.cars := rfl
@[simp] theorem State.setPorts_capture (s : State) (x : Ports) : (s.setPorts x).capture = s.capture := rfl
@[simp] theorem State.setPorts_executor (s : State) (x : Ports) : (s.setPorts x).executor = s.executor := rfl
@[simp] theorem State.setPorts_book (s : State) (x : Ports) : (s.setPorts x).book = s.book := rfl
@[simp] theorem State.setPorts_pending (s : State) (x : Ports) : (s.setPorts x).pending = s.pending := rfl
@[simp] theorem State.setPorts_self (s : State) : s.setPorts s.ports = s := rfl
@[simp] theorem State.setPorts_setPorts (s : State) (x y : Ports) : (s.setPorts x).setPorts y = s.setPorts y := rfl

@[simp] theorem State.setCounters_pins (s : State) (x : Counters) : (s.setCounters x).pins = s.pins := rfl
@[simp] theorem State.setCounters_nodeAddress (s : State) (x : Counters) : (s.setCounters x).nodeAddress = s.nodeAddress := rfl
@[simp] theorem State.setCounters_ports (s : State) (x : Counters) : (s.setCounters x).ports = s.ports := rfl
@[simp] theorem State.setCounters_counters (s : State) (x : Counters) : (s.setCounters x).counters = x := rfl
@[simp] theorem State.setCounters_intake (s : State) (x : Counters) : (s.setCounters x).intake = s.intake := rfl
@[simp] theorem State.setCounters_profile (s : State) (x : Counters) : (s.setCounters x).profile = s.profile := rfl
@[simp] theorem State.setCounters_odo (s : State) (x : Counters) : (s.setCounters x).odo = s.odo := rfl
@[simp] theorem State.setCounters_sensor (s : State) (x : Counters) : (s.setCounters x).sensor = s.sensor := rfl
@[simp] theorem State.setCounters_line (s : State) (x : Counters) : (s.setCounters x).line = s.line := rfl
@[simp] theorem State.setCounters_marker (s : State) (x : Counters) : (s.setCounters x).marker = s.marker := rfl
@[simp] theorem State.setCounters_route (s : State) (x : Counters) : (s.setCounters x).route = s.route := rfl
@[simp] theorem State.setCounters_demand (s : State) (x : Counters) : (s.setCounters x).demand = s.demand := rfl
@[simp] theorem State.setCounters_cars (s : State) (x : Counters) : (s.setCounters x).cars = s.cars := rfl
@[simp] theorem State.setCounters_capture (s : State) (x : Counters) : (s.setCounters x).capture = s.capture := rfl
@[simp] theorem State.setCounters_executor (s : State) (x : Counters) : (s.setCounters x).executor = s.executor := rfl
@[simp] theorem State.setCounters_book (s : State) (x : Counters) : (s.setCounters x).book = s.book := rfl
@[simp] theorem State.setCounters_pending (s : State) (x : Counters) : (s.setCounters x).pending = s.pending := rfl
@[simp] theorem State.setCounters_self (s : State) : s.setCounters s.counters = s := rfl
@[simp] theorem State.setCounters_setCounters (s : State) (x y : Counters) : (s.setCounters x).setCounters y = s.setCounters y := rfl

@[simp] theorem State.setIntake_pins (s : State) (x : Vector IntakeSlot 16) : (s.setIntake x).pins = s.pins := rfl
@[simp] theorem State.setIntake_nodeAddress (s : State) (x : Vector IntakeSlot 16) : (s.setIntake x).nodeAddress = s.nodeAddress := rfl
@[simp] theorem State.setIntake_ports (s : State) (x : Vector IntakeSlot 16) : (s.setIntake x).ports = s.ports := rfl
@[simp] theorem State.setIntake_counters (s : State) (x : Vector IntakeSlot 16) : (s.setIntake x).counters = s.counters := rfl
@[simp] theorem State.setIntake_intake (s : State) (x : Vector IntakeSlot 16) : (s.setIntake x).intake = x := rfl
@[simp] theorem State.setIntake_profile (s : State) (x : Vector IntakeSlot 16) : (s.setIntake x).profile = s.profile := rfl
@[simp] theorem State.setIntake_odo (s : State) (x : Vector IntakeSlot 16) : (s.setIntake x).odo = s.odo := rfl
@[simp] theorem State.setIntake_sensor (s : State) (x : Vector IntakeSlot 16) : (s.setIntake x).sensor = s.sensor := rfl
@[simp] theorem State.setIntake_line (s : State) (x : Vector IntakeSlot 16) : (s.setIntake x).line = s.line := rfl
@[simp] theorem State.setIntake_marker (s : State) (x : Vector IntakeSlot 16) : (s.setIntake x).marker = s.marker := rfl
@[simp] theorem State.setIntake_route (s : State) (x : Vector IntakeSlot 16) : (s.setIntake x).route = s.route := rfl
@[simp] theorem State.setIntake_demand (s : State) (x : Vector IntakeSlot 16) : (s.setIntake x).demand = s.demand := rfl
@[simp] theorem State.setIntake_cars (s : State) (x : Vector IntakeSlot 16) : (s.setIntake x).cars = s.cars := rfl
@[simp] theorem State.setIntake_capture (s : State) (x : Vector IntakeSlot 16) : (s.setIntake x).capture = s.capture := rfl
@[simp] theorem State.setIntake_executor (s : State) (x : Vector IntakeSlot 16) : (s.setIntake x).executor = s.executor := rfl
@[simp] theorem State.setIntake_book (s : State) (x : Vector IntakeSlot 16) : (s.setIntake x).book = s.book := rfl
@[simp] theorem State.setIntake_pending (s : State) (x : Vector IntakeSlot 16) : (s.setIntake x).pending = s.pending := rfl
@[simp] theorem State.setIntake_self (s : State) : s.setIntake s.intake = s := rfl
@[simp] theorem State.setIntake_setIntake (s : State) (x y : Vector IntakeSlot 16) : (s.setIntake x).setIntake y = s.setIntake y := rfl

@[simp] theorem State.setProfile_pins (s : State) (x : LineProfile) : (s.setProfile x).pins = s.pins := rfl
@[simp] theorem State.setProfile_nodeAddress (s : State) (x : LineProfile) : (s.setProfile x).nodeAddress = s.nodeAddress := rfl
@[simp] theorem State.setProfile_ports (s : State) (x : LineProfile) : (s.setProfile x).ports = s.ports := rfl
@[simp] theorem State.setProfile_counters (s : State) (x : LineProfile) : (s.setProfile x).counters = s.counters := rfl
@[simp] theorem State.setProfile_intake (s : State) (x : LineProfile) : (s.setProfile x).intake = s.intake := rfl
@[simp] theorem State.setProfile_profile (s : State) (x : LineProfile) : (s.setProfile x).profile = x := rfl
@[simp] theorem State.setProfile_odo (s : State) (x : LineProfile) : (s.setProfile x).odo = s.odo := rfl
@[simp] theorem State.setProfile_sensor (s : State) (x : LineProfile) : (s.setProfile x).sensor = s.sensor := rfl
@[simp] theorem State.setProfile_line (s : State) (x : LineProfile) : (s.setProfile x).line = s.line := rfl
@[simp] theorem State.setProfile_marker (s : State) (x : LineProfile) : (s.setProfile x).marker = s.marker := rfl
@[simp] theorem State.setProfile_route (s : State) (x : LineProfile) : (s.setProfile x).route = s.route := rfl
@[simp] theorem State.setProfile_demand (s : State) (x : LineProfile) : (s.setProfile x).demand = s.demand := rfl
@[simp] theorem State.setProfile_cars (s : State) (x : LineProfile) : (s.setProfile x).cars = s.cars := rfl
@[simp] theorem State.setProfile_capture (s : State) (x : LineProfile) : (s.setProfile x).capture = s.capture := rfl
@[simp] theorem State.setProfile_executor (s : State) (x : LineProfile) : (s.setProfile x).executor = s.executor := rfl
@[simp] theorem State.setProfile_book (s : State) (x : LineProfile) : (s.setProfile x).book = s.book := rfl
@[simp] theorem State.setProfile_pending (s : State) (x : LineProfile) : (s.setProfile x).pending = s.pending := rfl
@[simp] theorem State.setProfile_self (s : State) : s.setProfile s.profile = s := rfl
@[simp] theorem State.setProfile_setProfile (s : State) (x y : LineProfile) : (s.setProfile x).setProfile y = s.setProfile y := rfl

@[simp] theorem State.setOdo_pins (s : State) (x : Odometry) : (s.setOdo x).pins = s.pins := rfl
@[simp] theorem State.setOdo_nodeAddress (s : State) (x : Odometry) : (s.setOdo x).nodeAddress = s.nodeAddress := rfl
@[simp] theorem State.setOdo_ports (s : State) (x : Odometry) : (s.setOdo x).ports = s.ports := rfl
@[simp] theorem State.setOdo_counters (s : State) (x : Odometry) : (s.setOdo x).counters = s.counters := rfl
@[simp] theorem State.setOdo_intake (s : State) (x : Odometry) : (s.setOdo x).intake = s.intake := rfl
@[simp] theorem State.setOdo_profile (s : State) (x : Odometry) : (s.setOdo x).profile = s.profile := rfl
@[simp] theorem State.setOdo_odo (s : State) (x : Odometry) : (s.setOdo x).odo = x := rfl
@[simp] theorem State.setOdo_sensor (s : State) (x : Odometry) : (s.setOdo x).sensor = s.sensor := rfl
@[simp] theorem State.setOdo_line (s : State) (x : Odometry) : (s.setOdo x).line = s.line := rfl
@[simp] theorem State.setOdo_marker (s : State) (x : Odometry) : (s.setOdo x).marker = s.marker := rfl
@[simp] theorem State.setOdo_route (s : State) (x : Odometry) : (s.setOdo x).route = s.route := rfl
@[simp] theorem State.setOdo_demand (s : State) (x : Odometry) : (s.setOdo x).demand = s.demand := rfl
@[simp] theorem State.setOdo_cars (s : State) (x : Odometry) : (s.setOdo x).cars = s.cars := rfl
@[simp] theorem State.setOdo_capture (s : State) (x : Odometry) : (s.setOdo x).capture = s.capture := rfl
@[simp] theorem State.setOdo_executor (s : State) (x : Odometry) : (s.setOdo x).executor = s.executor := rfl
@[simp] theorem State.setOdo_book (s : State) (x : Odometry) : (s.setOdo x).book = s.book := rfl
@[simp] theorem State.setOdo_pending (s : State) (x : Odometry) : (s.setOdo x).pending = s.pending := rfl
@[simp] theorem State.setOdo_self (s : State) : s.setOdo s.odo = s := rfl
@[simp] theorem State.setOdo_setOdo (s : State) (x y : Odometry) : (s.setOdo x).setOdo y = s.setOdo y := rfl

@[simp] theorem State.setSensor_pins (s : State) (x : Sensor) : (s.setSensor x).pins = s.pins := rfl
@[simp] theorem State.setSensor_nodeAddress (s : State) (x : Sensor) : (s.setSensor x).nodeAddress = s.nodeAddress := rfl
@[simp] theorem State.setSensor_ports (s : State) (x : Sensor) : (s.setSensor x).ports = s.ports := rfl
@[simp] theorem State.setSensor_counters (s : State) (x : Sensor) : (s.setSensor x).counters = s.counters := rfl
@[simp] theorem State.setSensor_intake (s : State) (x : Sensor) : (s.setSensor x).intake = s.intake := rfl
@[simp] theorem State.setSensor_profile (s : State) (x : Sensor) : (s.setSensor x).profile = s.profile := rfl
@[simp] theorem State.setSensor_odo (s : State) (x : Sensor) : (s.setSensor x).odo = s.odo := rfl
@[simp] theorem State.setSensor_sensor (s : State) (x : Sensor) : (s.setSensor x).sensor = x := rfl
@[simp] theorem State.setSensor_line (s : State) (x : Sensor) : (s.setSensor x).line = s.line := rfl
@[simp] theorem State.setSensor_marker (s : State) (x : Sensor) : (s.setSensor x).marker = s.marker := rfl
@[simp] theorem State.setSensor_route (s : State) (x : Sensor) : (s.setSensor x).route = s.route := rfl
@[simp] theorem State.setSensor_demand (s : State) (x : Sensor) : (s.setSensor x).demand = s.demand := rfl
@[simp] theorem State.setSensor_cars (s : State) (x : Sensor) : (s.setSensor x).cars = s.cars := rfl
@[simp] theorem State.setSensor_capture (s : State) (x : Sensor) : (s.setSensor x).capture = s.capture := rfl
@[simp] theorem State.setSensor_executor (s : State) (x : Sensor) : (s.setSensor x).executor = s.executor := rfl
@[simp] theorem State.setSensor_book (s : State) (x : Sensor) : (s.setSensor x).book = s.book := rfl
@[simp] theorem State.setSensor_pending (s : State) (x : Sensor) : (s.setSensor x).pending = s.pending := rfl
@[simp] theorem State.setSensor_self (s : State) : s.setSensor s.sensor = s := rfl
@[simp] theorem State.setSensor_setSensor (s : State) (x y : Sensor) : (s.setSensor x).setSensor y = s.setSensor y := rfl

@[simp] theorem State.setLine_pins (s : State) (x : Line) : (s.setLine x).pins = s.pins := rfl
@[simp] theorem State.setLine_nodeAddress (s : State) (x : Line) : (s.setLine x).nodeAddress = s.nodeAddress := rfl
@[simp] theorem State.setLine_ports (s : State) (x : Line) : (s.setLine x).ports = s.ports := rfl
@[simp] theorem State.setLine_counters (s : State) (x : Line) : (s.setLine x).counters = s.counters := rfl
@[simp] theorem State.setLine_intake (s : State) (x : Line) : (s.setLine x).intake = s.intake := rfl
@[simp] theorem State.setLine_profile (s : State) (x : Line) : (s.setLine x).profile = s.profile := rfl
@[simp] theorem State.setLine_odo (s : State) (x : Line) : (s.setLine x).odo = s.odo := rfl
@[simp] theorem State.setLine_sensor (s : State) (x : Line) : (s.setLine x).sensor = s.sensor := rfl
@[simp] theorem State.setLine_line (s : State) (x : Line) : (s.setLine x).line = x := rfl
@[simp] theorem State.setLine_marker (s : State) (x : Line) : (s.setLine x).marker = s.marker := rfl
@[simp] theorem State.setLine_route (s : State) (x : Line) : (s.setLine x).route = s.route := rfl
@[simp] theorem State.setLine_demand (s : State) (x : Line) : (s.setLine x).demand = s.demand := rfl
@[simp] theorem State.setLine_cars (s : State) (x : Line) : (s.setLine x).cars = s.cars := rfl
@[simp] theorem State.setLine_capture (s : State) (x : Line) : (s.setLine x).capture = s.capture := rfl
@[simp] theorem State.setLine_executor (s : State) (x : Line) : (s.setLine x).executor = s.executor := rfl
@[simp] theorem State.setLine_book (s : State) (x : Line) : (s.setLine x).book = s.book := rfl
@[simp] theorem State.setLine_pending (s : State) (x : Line) : (s.setLine x).pending = s.pending := rfl
@[simp] theorem State.setLine_self (s : State) : s.setLine s.line = s := rfl
@[simp] theorem State.setLine_setLine (s : State) (x y : Line) : (s.setLine x).setLine y = s.setLine y := rfl

@[simp] theorem State.setMarker_pins (s : State) (x : MarkerUnit) : (s.setMarker x).pins = s.pins := rfl
@[simp] theorem State.setMarker_nodeAddress (s : State) (x : MarkerUnit) : (s.setMarker x).nodeAddress = s.nodeAddress := rfl
@[simp] theorem State.setMarker_ports (s : State) (x : MarkerUnit) : (s.setMarker x).ports = s.ports := rfl
@[simp] theorem State.setMarker_counters (s : State) (x : MarkerUnit) : (s.setMarker x).counters = s.counters := rfl
@[simp] theorem State.setMarker_intake (s : State) (x : MarkerUnit) : (s.setMarker x).intake = s.intake := rfl
@[simp] theorem State.setMarker_profile (s : State) (x : MarkerUnit) : (s.setMarker x).profile = s.profile := rfl
@[simp] theorem State.setMarker_odo (s : State) (x : MarkerUnit) : (s.setMarker x).odo = s.odo := rfl
@[simp] theorem State.setMarker_sensor (s : State) (x : MarkerUnit) : (s.setMarker x).sensor = s.sensor := rfl
@[simp] theorem State.setMarker_line (s : State) (x : MarkerUnit) : (s.setMarker x).line = s.line := rfl
@[simp] theorem State.setMarker_marker (s : State) (x : MarkerUnit) : (s.setMarker x).marker = x := rfl
@[simp] theorem State.setMarker_route (s : State) (x : MarkerUnit) : (s.setMarker x).route = s.route := rfl
@[simp] theorem State.setMarker_demand (s : State) (x : MarkerUnit) : (s.setMarker x).demand = s.demand := rfl
@[simp] theorem State.setMarker_cars (s : State) (x : MarkerUnit) : (s.setMarker x).cars = s.cars := rfl
@[simp] theorem State.setMarker_capture (s : State) (x : MarkerUnit) : (s.setMarker x).capture = s.capture := rfl
@[simp] theorem State.setMarker_executor (s : State) (x : MarkerUnit) : (s.setMarker x).executor = s.executor := rfl
@[simp] theorem State.setMarker_book (s : State) (x : MarkerUnit) : (s.setMarker x).book = s.book := rfl
@[simp] theorem State.setMarker_pending (s : State) (x : MarkerUnit) : (s.setMarker x).pending = s.pending := rfl
@[simp] theorem State.setMarker_self (s : State) : s.setMarker s.marker = s := rfl
@[simp] theorem State.setMarker_setMarker (s : State) (x y : MarkerUnit) : (s.setMarker x).setMarker y = s.setMarker y := rfl

@[simp] theorem State.setRoute_pins (s : State) (x : Route) : (s.setRoute x).pins = s.pins := rfl
@[simp] theorem State.setRoute_nodeAddress (s : State) (x : Route) : (s.setRoute x).nodeAddress = s.nodeAddress := rfl
@[simp] theorem State.setRoute_ports (s : State) (x : Route) : (s.setRoute x).ports = s.ports := rfl
@[simp] theorem State.setRoute_counters (s : State) (x : Route) : (s.setRoute x).counters = s.counters := rfl
@[simp] theorem State.setRoute_intake (s : State) (x : Route) : (s.setRoute x).intake = s.intake := rfl
@[simp] theorem State.setRoute_profile (s : State) (x : Route) : (s.setRoute x).profile = s.profile := rfl
@[simp] theorem State.setRoute_odo (s : State) (x : Route) : (s.setRoute x).odo = s.odo := rfl
@[simp] theorem State.setRoute_sensor (s : State) (x : Route) : (s.setRoute x).sensor = s.sensor := rfl
@[simp] theorem State.setRoute_line (s : State) (x : Route) : (s.setRoute x).line = s.line := rfl
@[simp] theorem State.setRoute_marker (s : State) (x : Route) : (s.setRoute x).marker = s.marker := rfl
@[simp] theorem State.setRoute_route (s : State) (x : Route) : (s.setRoute x).route = x := rfl
@[simp] theorem State.setRoute_demand (s : State) (x : Route) : (s.setRoute x).demand = s.demand := rfl
@[simp] theorem State.setRoute_cars (s : State) (x : Route) : (s.setRoute x).cars = s.cars := rfl
@[simp] theorem State.setRoute_capture (s : State) (x : Route) : (s.setRoute x).capture = s.capture := rfl
@[simp] theorem State.setRoute_executor (s : State) (x : Route) : (s.setRoute x).executor = s.executor := rfl
@[simp] theorem State.setRoute_book (s : State) (x : Route) : (s.setRoute x).book = s.book := rfl
@[simp] theorem State.setRoute_pending (s : State) (x : Route) : (s.setRoute x).pending = s.pending := rfl
@[simp] theorem State.setRoute_self (s : State) : s.setRoute s.route = s := rfl
@[simp] theorem State.setRoute_setRoute (s : State) (x y : Route) : (s.setRoute x).setRoute y = s.setRoute y := rfl

@[simp] theorem State.setDemand_pins (s : State) (x : Demand) : (s.setDemand x).pins = s.pins := rfl
@[simp] theorem State.setDemand_nodeAddress (s : State) (x : Demand) : (s.setDemand x).nodeAddress = s.nodeAddress := rfl
@[simp] theorem State.setDemand_ports (s : State) (x : Demand) : (s.setDemand x).ports = s.ports := rfl
@[simp] theorem State.setDemand_counters (s : State) (x : Demand) : (s.setDemand x).counters = s.counters := rfl
@[simp] theorem State.setDemand_intake (s : State) (x : Demand) : (s.setDemand x).intake = s.intake := rfl
@[simp] theorem State.setDemand_profile (s : State) (x : Demand) : (s.setDemand x).profile = s.profile := rfl
@[simp] theorem State.setDemand_odo (s : State) (x : Demand) : (s.setDemand x).odo = s.odo := rfl
@[simp] theorem State.setDemand_sensor (s : State) (x : Demand) : (s.setDemand x).sensor = s.sensor := rfl
@[simp] theorem State.setDemand_line (s : State) (x : Demand) : (s.setDemand x).line = s.line := rfl
@[simp] theorem State.setDemand_marker (s : State) (x : Demand) : (s.setDemand x).marker = s.marker := rfl
@[simp] theorem State.setDemand_route (s : State) (x : Demand) : (s.setDemand x).route = s.route := rfl
@[simp] theorem State.setDemand_demand (s : State) (x : Demand) : (s.setDemand x).demand = x := rfl
@[simp] theorem State.setDemand_cars (s : State) (x : Demand) : (s.setDemand x).cars = s.cars := rfl
@[simp] theorem State.setDemand_capture (s : State) (x : Demand) : (s.setDemand x).capture = s.capture := rfl
@[simp] theorem State.setDemand_executor (s : State) (x : Demand) : (s.setDemand x).executor = s.executor := rfl
@[simp] theorem State.setDemand_book (s : State) (x : Demand) : (s.setDemand x).book = s.book := rfl
@[simp] theorem State.setDemand_pending (s : State) (x : Demand) : (s.setDemand x).pending = s.pending := rfl
@[simp] theorem State.setDemand_self (s : State) : s.setDemand s.demand = s := rfl
@[simp] theorem State.setDemand_setDemand (s : State) (x y : Demand) : (s.setDemand x).setDemand y = s.setDemand y := rfl

@[simp] theorem State.setCars_pins (s : State) (x : Cars) : (s.setCars x).pins = s.pins := rfl
@[simp] theorem State.setCars_nodeAddress (s : State) (x : Cars) : (s.setCars x).nodeAddress = s.nodeAddress := rfl
@[simp] theorem State.setCars_ports (s : State) (x : Cars) : (s.setCars x).ports = s.ports := rfl
@[simp] theorem State.setCars_counters (s : State) (x : Cars) : (s.setCars x).counters = s.counters := rfl
@[simp] theorem State.setCars_intake (s : State) (x : Cars) : (s.setCars x).intake = s.intake := rfl
@[simp] theorem State.setCars_profile (s : State) (x : Cars) : (s.setCars x).profile = s.profile := rfl
@[simp] theorem State.setCars_odo (s : State) (x : Cars) : (s.setCars x).odo = s.odo := rfl
@[simp] theorem State.setCars_sensor (s : State) (x : Cars) : (s.setCars x).sensor = s.sensor := rfl
@[simp] theorem State.setCars_line (s : State) (x : Cars) : (s.setCars x).line = s.line := rfl
@[simp] theorem State.setCars_marker (s : State) (x : Cars) : (s.setCars x).marker = s.marker := rfl
@[simp] theorem State.setCars_route (s : State) (x : Cars) : (s.setCars x).route = s.route := rfl
@[simp] theorem State.setCars_demand (s : State) (x : Cars) : (s.setCars x).demand = s.demand := rfl
@[simp] theorem State.setCars_cars (s : State) (x : Cars) : (s.setCars x).cars = x := rfl
@[simp] theorem State.setCars_capture (s : State) (x : Cars) : (s.setCars x).capture = s.capture := rfl
@[simp] theorem State.setCars_executor (s : State) (x : Cars) : (s.setCars x).executor = s.executor := rfl
@[simp] theorem State.setCars_book (s : State) (x : Cars) : (s.setCars x).book = s.book := rfl
@[simp] theorem State.setCars_pending (s : State) (x : Cars) : (s.setCars x).pending = s.pending := rfl
@[simp] theorem State.setCars_self (s : State) : s.setCars s.cars = s := rfl
@[simp] theorem State.setCars_setCars (s : State) (x y : Cars) : (s.setCars x).setCars y = s.setCars y := rfl

@[simp] theorem State.setCapture_pins (s : State) (x : Capture) : (s.setCapture x).pins = s.pins := rfl
@[simp] theorem State.setCapture_nodeAddress (s : State) (x : Capture) : (s.setCapture x).nodeAddress = s.nodeAddress := rfl
@[simp] theorem State.setCapture_ports (s : State) (x : Capture) : (s.setCapture x).ports = s.ports := rfl
@[simp] theorem State.setCapture_counters (s : State) (x : Capture) : (s.setCapture x).counters = s.counters := rfl
@[simp] theorem State.setCapture_intake (s : State) (x : Capture) : (s.setCapture x).intake = s.intake := rfl
@[simp] theorem State.setCapture_profile (s : State) (x : Capture) : (s.setCapture x).profile = s.profile := rfl
@[simp] theorem State.setCapture_odo (s : State) (x : Capture) : (s.setCapture x).odo = s.odo := rfl
@[simp] theorem State.setCapture_sensor (s : State) (x : Capture) : (s.setCapture x).sensor = s.sensor := rfl
@[simp] theorem State.setCapture_line (s : State) (x : Capture) : (s.setCapture x).line = s.line := rfl
@[simp] theorem State.setCapture_marker (s : State) (x : Capture) : (s.setCapture x).marker = s.marker := rfl
@[simp] theorem State.setCapture_route (s : State) (x : Capture) : (s.setCapture x).route = s.route := rfl
@[simp] theorem State.setCapture_demand (s : State) (x : Capture) : (s.setCapture x).demand = s.demand := rfl
@[simp] theorem State.setCapture_cars (s : State) (x : Capture) : (s.setCapture x).cars = s.cars := rfl
@[simp] theorem State.setCapture_capture (s : State) (x : Capture) : (s.setCapture x).capture = x := rfl
@[simp] theorem State.setCapture_executor (s : State) (x : Capture) : (s.setCapture x).executor = s.executor := rfl
@[simp] theorem State.setCapture_book (s : State) (x : Capture) : (s.setCapture x).book = s.book := rfl
@[simp] theorem State.setCapture_pending (s : State) (x : Capture) : (s.setCapture x).pending = s.pending := rfl
@[simp] theorem State.setCapture_self (s : State) : s.setCapture s.capture = s := rfl
@[simp] theorem State.setCapture_setCapture (s : State) (x y : Capture) : (s.setCapture x).setCapture y = s.setCapture y := rfl

@[simp] theorem State.setExecutor_pins (s : State) (x : Executor) : (s.setExecutor x).pins = s.pins := rfl
@[simp] theorem State.setExecutor_nodeAddress (s : State) (x : Executor) : (s.setExecutor x).nodeAddress = s.nodeAddress := rfl
@[simp] theorem State.setExecutor_ports (s : State) (x : Executor) : (s.setExecutor x).ports = s.ports := rfl
@[simp] theorem State.setExecutor_counters (s : State) (x : Executor) : (s.setExecutor x).counters = s.counters := rfl
@[simp] theorem State.setExecutor_intake (s : State) (x : Executor) : (s.setExecutor x).intake = s.intake := rfl
@[simp] theorem State.setExecutor_profile (s : State) (x : Executor) : (s.setExecutor x).profile = s.profile := rfl
@[simp] theorem State.setExecutor_odo (s : State) (x : Executor) : (s.setExecutor x).odo = s.odo := rfl
@[simp] theorem State.setExecutor_sensor (s : State) (x : Executor) : (s.setExecutor x).sensor = s.sensor := rfl
@[simp] theorem State.setExecutor_line (s : State) (x : Executor) : (s.setExecutor x).line = s.line := rfl
@[simp] theorem State.setExecutor_marker (s : State) (x : Executor) : (s.setExecutor x).marker = s.marker := rfl
@[simp] theorem State.setExecutor_route (s : State) (x : Executor) : (s.setExecutor x).route = s.route := rfl
@[simp] theorem State.setExecutor_demand (s : State) (x : Executor) : (s.setExecutor x).demand = s.demand := rfl
@[simp] theorem State.setExecutor_cars (s : State) (x : Executor) : (s.setExecutor x).cars = s.cars := rfl
@[simp] theorem State.setExecutor_capture (s : State) (x : Executor) : (s.setExecutor x).capture = s.capture := rfl
@[simp] theorem State.setExecutor_executor (s : State) (x : Executor) : (s.setExecutor x).executor = x := rfl
@[simp] theorem State.setExecutor_book (s : State) (x : Executor) : (s.setExecutor x).book = s.book := rfl
@[simp] theorem State.setExecutor_pending (s : State) (x : Executor) : (s.setExecutor x).pending = s.pending := rfl
@[simp] theorem State.setExecutor_self (s : State) : s.setExecutor s.executor = s := rfl
@[simp] theorem State.setExecutor_setExecutor (s : State) (x y : Executor) : (s.setExecutor x).setExecutor y = s.setExecutor y := rfl

@[simp] theorem State.setBook_pins (s : State) (x : Book) : (s.setBook x).pins = s.pins := rfl
@[simp] theorem State.setBook_nodeAddress (s : State) (x : Book) : (s.setBook x).nodeAddress = s.nodeAddress := rfl
@[simp] theorem State.setBook_ports (s : State) (x : Book) : (s.setBook x).ports = s.ports := rfl
@[simp] theorem State.setBook_counters (s : State) (x : Book) : (s.setBook x).counters = s.counters := rfl
@[simp] theorem State.setBook_intake (s : State) (x : Book) : (s.setBook x).intake = s.intake := rfl
@[simp] theorem State.setBook_profile (s : State) (x : Book) : (s.setBook x).profile = s.profile := rfl
@[simp] theorem State.setBook_odo (s : State) (x : Book) : (s.setBook x).odo = s.odo := rfl
@[simp] theorem State.setBook_sensor (s : State) (x : Book) : (s.setBook x).sensor = s.sensor := rfl
@[simp] theorem State.setBook_line (s : State) (x : Book) : (s.setBook x).line = s.line := rfl
@[simp] theorem State.setBook_marker (s : State) (x : Book) : (s.setBook x).marker = s.marker := rfl
@[simp] theorem State.setBook_route (s : State) (x : Book) : (s.setBook x).route = s.route := rfl
@[simp] theorem State.setBook_demand (s : State) (x : Book) : (s.setBook x).demand = s.demand := rfl
@[simp] theorem State.setBook_cars (s : State) (x : Book) : (s.setBook x).cars = s.cars := rfl
@[simp] theorem State.setBook_capture (s : State) (x : Book) : (s.setBook x).capture = s.capture := rfl
@[simp] theorem State.setBook_executor (s : State) (x : Book) : (s.setBook x).executor = s.executor := rfl
@[simp] theorem State.setBook_book (s : State) (x : Book) : (s.setBook x).book = x := rfl
@[simp] theorem State.setBook_pending (s : State) (x : Book) : (s.setBook x).pending = s.pending := rfl
@[simp] theorem State.setBook_self (s : State) : s.setBook s.book = s := rfl
@[simp] theorem State.setBook_setBook (s : State) (x y : Book) : (s.setBook x).setBook y = s.setBook y := rfl

@[simp] theorem State.setPending_pins (s : State) (x : List Instr) : (s.setPending x).pins = s.pins := rfl
@[simp] theorem State.setPending_nodeAddress (s : State) (x : List Instr) : (s.setPending x).nodeAddress = s.nodeAddress := rfl
@[simp] theorem State.setPending_ports (s : State) (x : List Instr) : (s.setPending x).ports = s.ports := rfl
@[simp] theorem State.setPending_counters (s : State) (x : List Instr) : (s.setPending x).counters = s.counters := rfl
@[simp] theorem State.setPending_intake (s : State) (x : List Instr) : (s.setPending x).intake = s.intake := rfl
@[simp] theorem State.setPending_profile (s : State) (x : List Instr) : (s.setPending x).profile = s.profile := rfl
@[simp] theorem State.setPending_odo (s : State) (x : List Instr) : (s.setPending x).odo = s.odo := rfl
@[simp] theorem State.setPending_sensor (s : State) (x : List Instr) : (s.setPending x).sensor = s.sensor := rfl
@[simp] theorem State.setPending_line (s : State) (x : List Instr) : (s.setPending x).line = s.line := rfl
@[simp] theorem State.setPending_marker (s : State) (x : List Instr) : (s.setPending x).marker = s.marker := rfl
@[simp] theorem State.setPending_route (s : State) (x : List Instr) : (s.setPending x).route = s.route := rfl
@[simp] theorem State.setPending_demand (s : State) (x : List Instr) : (s.setPending x).demand = s.demand := rfl
@[simp] theorem State.setPending_cars (s : State) (x : List Instr) : (s.setPending x).cars = s.cars := rfl
@[simp] theorem State.setPending_capture (s : State) (x : List Instr) : (s.setPending x).capture = s.capture := rfl
@[simp] theorem State.setPending_executor (s : State) (x : List Instr) : (s.setPending x).executor = s.executor := rfl
@[simp] theorem State.setPending_book (s : State) (x : List Instr) : (s.setPending x).book = s.book := rfl
@[simp] theorem State.setPending_pending (s : State) (x : List Instr) : (s.setPending x).pending = x := rfl
@[simp] theorem State.setPending_self (s : State) : s.setPending s.pending = s := rfl
@[simp] theorem State.setPending_setPending (s : State) (x y : List Instr) : (s.setPending x).setPending y = s.setPending y := rfl

end Sys2Proof.Machine
end

