-- ==== Sys2Proof/Laws/Frame.lean ====
section
/-! SUPPORT. Frames: for each shared operation, once, the blocks of State it may change. A proof cites
the operation's lemma and reads off the block it needs. -/

namespace Sys2Proof.Machine

/-- The fields of State. -/
inductive Field where
  | pins | nodeAddress | ports | counters | intake | profile | odo | sensor | line | marker | route
  | demand | cars | capture | executor | book | pending
deriving DecidableEq, Repr

/-- Two states agree on a field. -/
def Field.same (f : Field) (s t : State) : Prop :=
  match f with
  | .pins => t.pins = s.pins
  | .nodeAddress => t.nodeAddress = s.nodeAddress
  | .ports => t.ports = s.ports
  | .counters => t.counters = s.counters
  | .intake => t.intake = s.intake
  | .profile => t.profile = s.profile
  | .odo => t.odo = s.odo
  | .sensor => t.sensor = s.sensor
  | .line => t.line = s.line
  | .marker => t.marker = s.marker
  | .route => t.route = s.route
  | .demand => t.demand = s.demand
  | .cars => t.cars = s.cars
  | .capture => t.capture = s.capture
  | .executor => t.executor = s.executor
  | .book => t.book = s.book
  | .pending => t.pending = s.pending

/-- `t` agrees with `s` on every field but those listed. -/
def SameBut (fs : List Field) (s t : State) : Prop := ∀ f, f ∉ fs → f.same s t

theorem SameBut.refl (fs : List Field) (s : State) : SameBut fs s s := by
  intro f _; cases f <;> rfl

theorem SameBut.trans {fs : List Field} {s t u : State} (h : SameBut fs s t) (k : SameBut fs t u) :
    SameBut fs s u := by
  intro f hf
  have h1 := h f hf
  have h2 := k f hf
  cases f <;> exact Eq.trans h2 h1

theorem SameBut.mono {fs gs : List Field} {s t : State} (h : SameBut fs s t) (k : fs ⊆ gs) :
    SameBut gs s t := fun f hf => h f (fun m => hf (k m))

/-- Two states that agree on every field are equal. -/
theorem SameBut.eq_of_nil {s t : State} (h : SameBut [] s t) : t = s := by
  have e := fun f => h f (by simp)
  cases s; cases t
  have := e .pins; have := e .nodeAddress; have := e .ports; have := e .counters
  have := e .intake; have := e .profile; have := e .odo; have := e .sensor; have := e .line
  have := e .marker; have := e .route; have := e .demand; have := e .cars; have := e .capture
  have := e .executor; have := e .book; have := e .pending
  simp only [Field.same] at *
  subst_vars
  rfl

theorem SameBut.foldl {α : Type} {fs : List Field} {f : State → α → State}
    (h : ∀ s a, SameBut fs s (f s a)) (l : List α) (s : State) : SameBut fs s (l.foldl f s) := by
  induction l generalizing s with
  | nil => exact .refl _ _
  | cons a l ih => exact (h s a).trans (ih (f s a))

theorem SameBut.ite {fs : List Field} {s t u : State} {p : Prop} [Decidable p]
    (h : SameBut fs s t) (k : SameBut fs s u) : SameBut fs s (if p then t else u) := by
  split
  · exact h
  · exact k

/-! ## The updates themselves -/

theorem setPins_frame (s : State) (x : Pins) : SameBut [.pins] s (s.setPins x) := by
  intro f hf; cases f <;> first | rfl | simp at hf
theorem setPorts_frame (s : State) (x : Ports) : SameBut [.ports] s (s.setPorts x) := by
  intro f hf; cases f <;> first | rfl | simp at hf
theorem setCounters_frame (s : State) (x : Counters) : SameBut [.counters] s (s.setCounters x) := by
  intro f hf; cases f <;> first | rfl | simp at hf
theorem setIntake_frame (s : State) (x : Vector IntakeSlot 16) :
    SameBut [.intake] s (s.setIntake x) := by
  intro f hf; cases f <;> first | rfl | simp at hf
theorem setProfile_frame (s : State) (x : LineProfile) : SameBut [.profile] s (s.setProfile x) := by
  intro f hf; cases f <;> first | rfl | simp at hf
theorem setOdo_frame (s : State) (x : Odometry) : SameBut [.odo] s (s.setOdo x) := by
  intro f hf; cases f <;> first | rfl | simp at hf
theorem setSensor_frame (s : State) (x : Sensor) : SameBut [.sensor] s (s.setSensor x) := by
  intro f hf; cases f <;> first | rfl | simp at hf
theorem setLine_frame (s : State) (x : Line) : SameBut [.line] s (s.setLine x) := by
  intro f hf; cases f <;> first | rfl | simp at hf
theorem setMarker_frame (s : State) (x : MarkerUnit) : SameBut [.marker] s (s.setMarker x) := by
  intro f hf; cases f <;> first | rfl | simp at hf
theorem setRoute_frame (s : State) (x : Route) : SameBut [.route] s (s.setRoute x) := by
  intro f hf; cases f <;> first | rfl | simp at hf
theorem setDemand_frame (s : State) (x : Demand) : SameBut [.demand] s (s.setDemand x) := by
  intro f hf; cases f <;> first | rfl | simp at hf
theorem setCars_frame (s : State) (x : Cars) : SameBut [.cars] s (s.setCars x) := by
  intro f hf; cases f <;> first | rfl | simp at hf
theorem setCapture_frame (s : State) (x : Capture) : SameBut [.capture] s (s.setCapture x) := by
  intro f hf; cases f <;> first | rfl | simp at hf
theorem setExecutor_frame (s : State) (x : Executor) : SameBut [.executor] s (s.setExecutor x) := by
  intro f hf; cases f <;> first | rfl | simp at hf
theorem setBook_frame (s : State) (x : Book) : SameBut [.book] s (s.setBook x) := by
  intro f hf; cases f <;> first | rfl | simp at hf

/-! ## Ports, reports, replies -/

/-- What an offer may change. -/
abbrev offerFields : List Field := [.ports, .counters]

theorem offerReport_frame (r : Report) (s : State) : SameBut offerFields s (offerReport r s) := by
  unfold offerReport
  exact .ite ((setPorts_frame _ _).mono (by decide)) ((setCounters_frame _ _).mono (by decide))

theorem offerAft_frame (f : Frame) (s : State) : SameBut offerFields s (offerAft f s) := by
  unfold offerAft
  exact .ite ((setPorts_frame _ _).mono (by decide)) ((setCounters_frame _ _).mono (by decide))

theorem offerFore_frame (f : Frame) (s : State) : SameBut offerFields s (offerFore f s) := by
  unfold offerFore
  exact .ite ((setPorts_frame _ _).mono (by decide)) ((setCounters_frame _ _).mono (by decide))

theorem forward_frame (port : Port) (f : Frame) (s : State) :
    SameBut offerFields s (forward port f s) := by
  cases port
  · exact offerAft_frame f s
  · exact offerFore_frame f s

theorem placeReply_frame (r : Request) (a : Reply) (s : State) :
    SameBut [.ports] s (placeReply r a s) := setPorts_frame _ _

/-! ## Cars -/

/-- What a change of a car's channel state with its report may change. -/
abbrev carFields : List Field := [.ports, .counters, .cars]

theorem setChannel_frame (c : Car) (x : CarChannel) (s : State) :
    SameBut [.cars] s (setChannel c x s) := setCars_frame _ _

theorem parkWaiting_frame (u : UnitId) (s : State) :
    SameBut [.ports, .cars] s (parkWaiting u s) := by
  unfold parkWaiting
  split
  · exact .refl _ _
  · exact ((setPorts_frame _ _).mono (by decide)).trans ((setCars_frame _ _).mono (by decide))

theorem parkAllWaiting_frame (s : State) : SameBut [.ports, .cars] s (parkAllWaiting s) := by
  unfold parkAllWaiting
  split
  · exact .refl _ _
  · exact ((setPorts_frame _ _).mono (by decide)).trans ((setCars_frame _ _).mono (by decide))

theorem enterStill_frame (c : Car) (st : ChanState) (s : State) :
    SameBut [.ports, .cars] s (enterStill c st s) :=
  ((setChannel_frame _ _ _).mono (by decide)).trans (parkWaiting_frame _ _)

theorem carReport_frame (c : Car) (before : ChanState) (cause : CarCause) (s : State) :
    SameBut offerFields s (carReport c before cause s) := offerReport_frame _ _

theorem forCars_frame {fs : List Field} {f : Car → State → State}
    (h : ∀ c s, SameBut fs s (f c s)) (s : State) : SameBut fs s (forCars f s) :=
  SameBut.foldl (fun s c => h c s) allCars s

/-- A reported change of channel state made through `enterStill`. -/
theorem stillReport_frame (c : Car) (before st : ChanState) (cause : CarCause) (s : State) :
    SameBut carFields s (carReport c before cause (enterStill c st s)) :=
  ((enterStill_frame _ _ _).mono (by decide)).trans ((carReport_frame _ _ _ _).mono (by decide))

/-- A reported change of channel state made by replacing the record. -/
theorem channelReport_frame (c : Car) (before : ChanState) (cause : CarCause) (x : CarChannel)
    (s : State) : SameBut carFields s (carReport c before cause (setChannel c x s)) :=
  ((setChannel_frame _ _ _).mono (by decide)).trans ((carReport_frame _ _ _ _).mono (by decide))

theorem trackingTest_frame (c : Car) (actual : Int) (s : State) :
    SameBut carFields s (trackingTest c actual s) := by
  unfold trackingTest
  dsimp only
  split
  · split
    · exact stillReport_frame _ _ _ _ _
    · exact (setChannel_frame _ _ _).mono (by decide)
  · exact (setChannel_frame _ _ _).mono (by decide)

theorem unitStateAct_frame (c : Car) (u : UnitState) (s : State) :
    SameBut carFields s (unitStateAct c u s) := by
  unfold unitStateAct
  cases u with
  | ready =>
    dsimp only
    split
    · split
      · exact channelReport_frame _ _ _ _ _
      · exact channelReport_frame _ _ _ _ _
      · exact .refl _ _
    · exact .refl _ _
  | busy =>
    dsimp only
    split
    · exact channelReport_frame _ _ _ _ _
    · exact .refl _ _
  | fault =>
    dsimp only
    split
    · exact .refl _ _
    · exact stillReport_frame _ _ _ _ _

theorem takeStatus_frame (c : Car) (u : UnitState) (actual : Int) (echo : Word16) (s : State) :
    SameBut carFields s (takeStatus c u actual echo s) := by
  have h : SameBut carFields s (recordStatus c u actual echo s) :=
    (setChannel_frame _ _ _).mono (by decide)
  unfold takeStatus
  dsimp only
  split
  · split
    · exact h.trans (trackingTest_frame _ _ _)
    · exact (h.trans (trackingTest_frame _ _ _)).trans (unitStateAct_frame _ _ _)
  · exact h.trans (unitStateAct_frame _ _ _)

theorem takeUnitStatus_frame (unit : UnitId) (u : UnitState) (actual : Int) (echo : Word16)
    (s : State) : SameBut carFields s (takeUnitStatus unit u actual echo s) :=
  forCars_frame (fun c t => .ite (takeStatus_frame c u actual echo t) (.refl _ _)) s

theorem handleUnitStatus_frame (p : List Byte) (s : State) :
    SameBut carFields s (handleUnitStatus p s) := by
  unfold handleUnitStatus
  split
  · exact .refl _ _
  · split
    · exact takeUnitStatus_frame _ _ _ _ _
    · exact .refl _ _

theorem ageCar_frame (c : Car) (s : State) : SameBut carFields s (ageCar c s) := by
  unfold ageCar
  exact .ite (.refl _ _) ((setChannel_frame _ _ _).mono (by decide))

theorem ageTest_frame (c : Car) (s : State) : SameBut carFields s (ageTest c s) := by
  unfold ageTest
  dsimp only
  split
  · split
    · exact stillReport_frame _ _ _ _ _
    · exact channelReport_frame _ _ _ _ _
  · split
    · exact stillReport_frame _ _ _ _ _
    · exact .refl _ _

theorem ageAll_frame (s : State) : SameBut carFields s (ageAll s) :=
  (forCars_frame ageCar_frame s).trans (forCars_frame ageTest_frame _)

theorem handFrame_frame (s : State) : SameBut carFields s (handFrame s) :=
  ((setPorts_frame _ _).mono (by decide)).trans ((setCars_frame _ _).mono (by decide))

theorem parkSent_frame (c : Car) (s : State) : SameBut carFields s (parkSent c s) := by
  unfold parkSent
  dsimp only
  split
  · exact channelReport_frame _ _ _ _ _
  · exact .refl _ _

theorem buildCommand_frame (s : State) : SameBut carFields s (buildCommand s) :=
  (handFrame_frame s).trans (forCars_frame parkSent_frame _)

/-! ## Demand engine -/

/-- What a computed period may change. -/
abbrev periodFields : List Field := [.ports, .counters, .cars, .demand]

theorem storeComputation_frame (c : Car) (r : Computation) (s : State) :
    SameBut periodFields s (storeComputation c r s) := by
  have h : SameBut periodFields s
      (setChannel c { (s.setDemand { s.demand with last := s.demand.last.set c (some r) }).channel c
        with thetaPrev := r.angle }
        (s.setDemand { s.demand with last := s.demand.last.set c (some r) })) :=
    ((setDemand_frame _ _).mono (by decide)).trans ((setChannel_frame _ _ _).mono (by decide))
  unfold storeComputation
  dsimp only
  split
  · exact h.trans ((stillReport_frame _ _ _ _ _).mono (by decide))
  · exact h

theorem computeCar_frame (c : Car) (s : State) : SameBut periodFields s (computeCar c s) := by
  unfold computeCar
  split
  · exact storeComputation_frame _ _ _
  · exact storeComputation_frame _ _ _
  · exact .refl _ _

theorem commandExpiry_frame (s : State) : SameBut periodFields s (commandExpiry s) := by
  have h : SameBut periodFields s (restartTimer s) := (setDemand_frame _ _).mono (by decide)
  unfold commandExpiry
  refine SameBut.trans ?_ ((ageAll_frame _).mono (by decide))
  split
  · exact h.trans ((setCounters_frame _ _).mono (by decide))
  · exact h.trans ((forCars_frame computeCar_frame _).trans
      ((buildCommand_frame _).mono (by decide)))

/-! ## Capture, route, marker -/

/-- What the capture unit's own events may change. -/
abbrev captureFields : List Field := [.ports, .counters, .capture]

theorem offerCapture_frame (e : CaptureEvent) (b : Option CapState) (s : State) :
    SameBut offerFields s (offerCapture e b s) := offerReport_frame _ _

theorem beginCapture_frame (m : CapMode) (src : CapSource) (c : Option Car) (n : Option Nat)
    (x y : Int) (s : State) : SameBut captureFields s (beginCapture m src c n x y s) :=
  ((setCapture_frame _ _).mono (by decide)).trans ((offerCapture_frame _ _ _).mono (by decide))

theorem regimeTrigger_frame (c : Car) (n : Nat) (s : State) :
    SameBut captureFields s (regimeTrigger c n s) := by
  unfold regimeTrigger
  split
  · exact beginCapture_frame _ _ _ _ _ _ _
  · exact ((setCounters_frame _ _).mono (by decide)).trans ((offerReport_frame _ _).mono (by decide))

theorem overtakingTest_frame (s : State) : SameBut captureFields s (overtakingTest s) := by
  unfold overtakingTest
  split
  · exact ((setCapture_frame _ _).mono (by decide)).trans
      ((offerCapture_frame _ _ _).mono (by decide))
  · exact .refl _ _

theorem captureClear_frame (s : State) : SameBut captureFields s (captureClear s) := by
  unfold captureClear
  split
  · exact .refl _ _
  · exact ((setCapture_frame _ _).mono (by decide)).trans
      ((offerCapture_frame _ _ _).mono (by decide))

/-- What the route store's own events may change. -/
abbrev routeFields : List Field := [.ports, .counters, .route]

theorem setBankState_frame (bank : Bank) (st : BankState) (s : State) :
    SameBut [.route] s (setBankState bank st s) := setRoute_frame _ _

theorem offerRoute_frame (e : RouteEvent) (bank : Bank) (c : Option RouteCause)
    (a : Option (MarkerClass × Byte)) (s : State) : SameBut offerFields s (offerRoute e bank c a s) :=
  offerReport_frame _ _

theorem freePassed_frame (bank : Bank) (s : State) : SameBut routeFields s (freePassed bank s) :=
  ((setBankState_frame _ _ _).mono (by decide)).trans ((offerRoute_frame _ _ _ _ _).mono (by decide))

theorem freeCleared_frame (bank : Bank) (s : State) : SameBut routeFields s (freeCleared bank s) := by
  unfold freeCleared
  split
  · exact ((setBankState_frame _ _ _).mono (by decide)).trans
      ((offerRoute_frame _ _ _ _ _).mono (by decide))
  · exact .refl _ _

theorem routeClear_frame (s : State) : SameBut routeFields s (routeClear s) :=
  (freeCleared_frame _ _).trans (freeCleared_frame _ _)

/-- What a pass, a section end or any answer to an advance or a clear may change. -/
abbrev answerFields : List Field := [.ports, .counters, .route, .capture, .marker, .book]

theorem tellRoute_frame (w : Bool) (bank : Bank) (s : State) :
    SameBut answerFields s (tellRoute w bank s) := by
  unfold tellRoute
  split
  · exact (setBook_frame _ _).mono (by decide)
  · exact (freePassed_frame _ _).mono (by decide)

theorem takeNotices_frame (s : State) : SameBut answerFields s (takeNotices s) :=
  ((setBook_frame _ _).mono (by decide)).trans
    (SameBut.foldl (fun t bank => (freePassed_frame bank t).mono (by decide)) _ _)

theorem setQueue_frame (q : List Marker) (s : State) : SameBut [.marker] s (setQueue q s) :=
  setMarker_frame _ _

theorem setRegime_frame (c : Car) (x : CarRegime) (s : State) :
    SameBut [.marker] s (setRegime c x s) := setMarker_frame _ _

theorem dropEmptied_frame (w : Bool) (s : State) : SameBut answerFields s (dropEmptied w s) := by
  unfold dropEmptied
  refine ((setQueue_frame _ _).mono (by decide)).trans (SameBut.foldl (fun t m => ?_) _ _)
  split
  · exact tellRoute_frame _ _ _
  · exact .refl _ _

theorem applyEntry_frame (w : Bool) (c : Car) (n : Nat) (e : RegimeEntry) (s : State) :
    SameBut answerFields s (applyEntry w c n e s) := by
  have h : ∀ t : State, SameBut answerFields s t → SameBut answerFields s
      (dropEmptied w (setQueue (t.marker.queue.map (Marker.without c n)) t)) := fun t ht =>
    (ht.trans ((setQueue_frame _ _).mono (by decide))).trans (dropEmptied_frame _ _)
  have h1 := h _ ((setRegime_frame c { s.regime c with regime := e.next, authority := e.authority } s).mono
    (by decide : ([.marker] : List Field) ⊆ answerFields))
  unfold applyEntry
  dsimp only
  split
  · exact h1.trans ((regimeTrigger_frame _ _ _).mono (by decide))
  · exact h1

theorem carPass_frame (w : Bool) (c : Car) (q : List Marker) (s : State) :
    SameBut answerFields s (carPass w c q s) := by
  induction q generalizing s with
  | nil => exact .refl _ _
  | cons m q ih =>
    unfold carPass
    split
    · split
      · dsimp only
        split
        · exact (setRegime_frame _ _ _).mono (by decide)
        · exact (applyEntry_frame _ _ _ _ _).trans (ih _)
      · exact .refl _ _
    · exact ih s

theorem passCar_frame (w : Bool) (c : Car) (s : State) : SameBut answerFields s (passCar w c s) := by
  unfold passCar
  exact .ite (carPass_frame _ _ _ _) (.refl _ _)

theorem arbiter_frame (s : State) : SameBut answerFields s (arbiter s) := by
  unfold arbiter
  split
  · exact ((setMarker_frame _ _).mono (by decide)).trans ((offerReport_frame _ _).mono (by decide))
  · exact .refl _ _

theorem pass_frame (w : Bool) (s : State) : SameBut answerFields s (pass w s) :=
  (forCars_frame (passCar_frame w) s).trans (arbiter_frame _)

theorem enqueue_frame (k : MarkerKind) (cls : MarkerClass) (param : Byte) (cell : Nat)
    (bank : Option Bank) (s : State) : SameBut [.marker] s (enqueue k cls param cell bank s) :=
  setMarker_frame _ _

theorem queueSectionEnd_frame (cls : MarkerClass) (param : Byte) (cell : Nat) (bank : Bank)
    (s : State) : SameBut answerFields s (queueSectionEnd cls param cell bank s) :=
  (((enqueue_frame _ _ _ _ _ _).mono (by decide)).trans (dropEmptied_frame _ _)).trans
    (pass_frame _ _)

theorem withdraw_frame (s : State) : SameBut answerFields s (withdraw s) := by
  unfold withdraw
  split
  · exact .refl _ _
  · exact ((setMarker_frame _ _).mono (by decide)).trans ((offerReport_frame _ _).mono (by decide))

theorem stopWaiting_frame (c : Car) (s : State) : SameBut [.marker] s (stopWaiting c s) :=
  setRegime_frame _ _ _

theorem markerClear_frame (s : State) : SameBut answerFields s (markerClear s) :=
  ((((setQueue_frame _ _).mono (by decide)).trans (withdraw_frame _)).trans
    (forCars_frame (fun c t => (stopWaiting_frame c t).mono (by decide)) _)).trans (pass_frame _ _)

theorem markerDisable_frame (c : Car) (s : State) : SameBut answerFields s (markerDisable c s) := by
  unfold markerDisable
  dsimp only
  refine SameBut.trans (SameBut.trans ?_ ((stopWaiting_frame c _).mono (by decide))) (pass_frame _ _)
  have h := ((setQueue_frame (s.marker.queue.map
    (fun m => { m with pending := m.pending.filter (· ≠ c) })) s).mono
      (by decide : ([.marker] : List Field) ⊆ answerFields)).trans (dropEmptied_frame false _)
  split
  · exact h.trans (withdraw_frame _)
  · exact h

theorem startBank_frame (bank : Bank) (n : Nat) (c : RouteCause) (a : Option (MarkerClass × Byte))
    (s : State) : SameBut routeFields s (startBank bank n c a s) :=
  ((setRoute_frame _ _).mono (by decide)).trans ((offerRoute_frame _ _ _ _ _).mono (by decide))

theorem drainBank_frame (bank : Bank) (s : State) : SameBut answerFields s (drainBank bank s) :=
  (((setBankState_frame _ _ _).mono (by decide)).trans (queueSectionEnd_frame _ _ _ _ _)).trans
    ((offerRoute_frame _ _ _ _ _).mono (by decide))

theorem chainOrUnknown_frame (bank : Bank) (s : State) : SameBut routeFields s (chainOrUnknown bank s) := by
  unfold chainOrUnknown
  exact .ite (startBank_frame _ _ _ _ _) ((offerRoute_frame _ _ _ _ _).mono (by decide))

theorem endChain_frame (n : Nat) (s : State) : SameBut answerFields s (endChain n s) := by
  induction n generalizing s with
  | zero => exact .refl _ _
  | succ n ih =>
    unfold endChain
    split
    · exact .refl _ _
    · exact ((drainBank_frame _ _).trans ((chainOrUnknown_frame _ _).mono (by decide))).trans (ih _)

theorem endTest_frame (s : State) : SameBut answerFields s (endTest s) :=
  (endChain_frame _ _).trans (takeNotices_frame _)

theorem offerAnchor_frame (cls : MarkerClass) (param : Byte) (cell : Nat) (s : State) :
    SameBut answerFields s (offerAnchor cls param cell s) := by
  unfold offerAnchor
  split
  · exact .refl _ _
  · split
    · exact ((startBank_frame _ _ _ _ _).mono (by decide)).trans (endTest_frame _)
    · split
      · exact ((startBank_frame _ _ _ _ _).mono (by decide)).trans (endTest_frame _)
      · exact .refl _ _

/-! ## Answers to an advance and to a clear -/

theorem answerAdvance_frame (t : Task) (s : State) : SameBut answerFields s (answerAdvance t s) := by
  cases t with
  | marker => exact pass_frame _ _
  | route => exact endTest_frame _
  | capture => exact (overtakingTest_frame _).mono (by decide)
  | report r => exact (offerReport_frame _ _).mono (by decide)

theorem answerClear_frame (t : Task) (s : State) : SameBut answerFields s (answerClear t s) := by
  cases t with
  | marker => exact markerClear_frame _
  | route => exact (routeClear_frame _).mono (by decide)
  | capture => exact (captureClear_frame _).mono (by decide)
  | report r => exact (offerReport_frame _ _).mono (by decide)

/-- `answerAll` runs some list of tasks, on the state itself or with one open choice more counted. -/
theorem answerAll_cases (answer : Task → State → State) (due : Nat) (own : Option Report)
    (s : State) : ∃ ts n, answerAll answer due own s =
      runTasks answer ts (s.setBook { s.book with choices := n }) := by
  unfold answerAll
  split
  · exact ⟨_, _, rfl⟩
  · exact ⟨_, s.book.choices, rfl⟩

theorem answerAll_frame {answer : Task → State → State}
    (h : ∀ t s, SameBut answerFields s (answer t s)) (due : Nat) (own : Option Report) (s : State) :
    SameBut answerFields s (answerAll answer due own s) := by
  obtain ⟨ts, n, e⟩ := answerAll_cases answer due own s
  rw [e]
  exact ((setBook_frame _ _).mono (by decide)).trans (SameBut.foldl (fun u t => h t u) _ _)

/-- What an advance or a line clear may change. -/
abbrev lineFields : List Field := [.ports, .counters, .route, .capture, .marker, .book, .line]

theorem advance_frame (k : Nat) (own : State → Option Report) (s : State) :
    SameBut lineFields s (advance k own s) := by
  unfold advance
  split
  · split
    · exact (offerReport_frame _ _).mono (by decide)
    · exact .refl _ _
  · exact ((setLine_frame _ _).mono (by decide)).trans
      ((answerAll_frame answerAdvance_frame _ _ _).mono (by decide))

theorem lineClear_frame (own : Option Report) (s : State) : SameBut lineFields s (lineClear own s) :=
  ((setLine_frame _ _).mono (by decide)).trans
    ((answerAll_frame answerClear_frame _ _ _).mono (by decide))

/-! ## Odometry and markers -/

/-- What the handling of an ODOMETRY frame may change. -/
abbrev odoFields : List Field :=
  [.ports, .counters, .route, .capture, .marker, .book, .line, .odo, .demand]

theorem setSpeed_frame (v : Nat) (s : State) : SameBut [.odo, .demand] s (setSpeed v s) :=
  ((setOdo_frame _ _).mono (by decide)).trans ((setDemand_frame _ _).mono (by decide))

theorem slip_frame (s : State) : SameBut odoFields s (slip s) := by
  unfold slip
  dsimp only
  split
  · exact (setOdo_frame _ _).mono (by decide)
  · exact ((setOdo_frame _ _).mono (by decide)).trans ((offerReport_frame _ _).mono (by decide))

theorem recover_frame (k : Nat) (s : State) : SameBut odoFields s (recover k s) := by
  unfold recover
  split
  · split
    · exact ((setOdo_frame _ _).mono (by decide)).trans ((offerReport_frame _ _).mono (by decide))
    · exact (setOdo_frame _ _).mono (by decide)
  · exact .refl _ _

theorem setReference_frame (d : Distance) (v : Nat) (s : State) :
    SameBut [.odo, .demand] s (setReference d v s) :=
  (setSpeed_frame _ _).trans ((setOdo_frame _ _).mono (by decide))

theorem takeDelta_frame (delta : Int) (s : State) : SameBut odoFields s (takeDelta delta s) := by
  unfold takeDelta
  split
  · exact ((setOdo_frame _ _).mono (by decide)).trans ((offerReport_frame _ _).mono (by decide))
  · split
    · exact (setOdo_frame _ _).mono (by decide)
    · dsimp only
      split
      · exact (setOdo_frame _ _).mono (by decide)
      · exact ((setOdo_frame _ _).mono (by decide)).trans ((advance_frame _ _ _).mono (by decide))

theorem takeOdometry_frame (d : Distance) (v : Nat) (b : Bool) (s : State) :
    SameBut odoFields s (takeOdometry d v b s) := by
  unfold takeOdometry
  split
  · have h : SameBut odoFields s (setReference d v s) := (setReference_frame _ _ _).mono (by decide)
    unfold takeUnset
    dsimp only
    split
    · exact h.trans (slip_frame _)
    · exact h
  · have h : SameBut odoFields s (takeDelta (counterDiff d (setSpeed v s).odo.lastDistance)
        ((setSpeed v s).setOdo { (setSpeed v s).odo with timeout := some 100, lastDistance := d })) :=
      (((setSpeed_frame _ _).mono (by decide)).trans ((setOdo_frame _ _).mono (by decide))).trans
        (takeDelta_frame _ _)
    unfold takeTracking
    dsimp only
    split
    · exact h.trans (slip_frame _)
    · exact h.trans (recover_frame _ _)
  · have h : SameBut odoFields s (setReference d v
        (lineClear (some (.odometry .restored .tracking s.line.inputCell none)) s)) :=
      ((lineClear_frame _ _).mono (by decide)).trans ((setReference_frame _ _ _).mono (by decide))
    unfold takeLost
    dsimp only
    split
    · exact h.trans (slip_frame _)
    · exact h

theorem handleOdometry_frame (p : List Byte) (s : State) :
    SameBut odoFields s (handleOdometry p s) := by
  unfold handleOdometry
  split
  · exact .refl _ _
  · split
    · exact takeOdometry_frame _ _ _ _
    · split
      · exact takeOdometry_frame _ _ _ _
      · exact .refl _ _

theorem odometryExpiry_frame (s : State) : SameBut odoFields s (odometryExpiry s) := by
  unfold odometryExpiry
  dsimp only
  split
  · exact (((setOdo_frame _ _).mono (by decide)).trans ((setSpeed_frame _ _).mono (by decide))).trans
      ((offerReport_frame _ _).mono (by decide))
  · exact .refl _ _

theorem queueTrack_frame (cls : MarkerClass) (param : Byte) (cell : Nat) (s : State) :
    SameBut answerFields s (queueTrack cls param cell s) :=
  ((((enqueue_frame _ _ _ _ _ _).mono (by decide)).trans (offerAnchor_frame _ _ _ _)).trans
    (dropEmptied_frame _ _)).trans (pass_frame _ _)

theorem refuseMarker_frame (r : MarkerReason) (cls : MarkerClass) (param : Byte) (d : Distance)
    (x y : Option Int) (s : State) : SameBut offerFields s (refuseMarker r cls param d x y s) :=
  offerReport_frame _ _

theorem offerMarker_frame (cls : MarkerClass) (param : Byte) (d : Distance) (s : State) :
    SameBut answerFields s (offerMarker cls param d s) := by
  unfold offerMarker
  split
  · exact (refuseMarker_frame _ _ _ _ _ _ _).mono (by decide)
  · exact (refuseMarker_frame _ _ _ _ _ _ _).mono (by decide)
  · split
    · exact (refuseMarker_frame _ _ _ _ _ _ _).mono (by decide)
    · split
      · exact ((setMarker_frame _ _).mono (by decide)).trans
          ((refuseMarker_frame _ _ _ _ _ _ _).mono (by decide))
      · exact queueTrack_frame _ _ _ _

theorem handleMarker_frame (p : List Byte) (s : State) :
    SameBut answerFields s (handleMarker p s) := by
  unfold handleMarker
  split
  · exact .refl _ _
  · split
    · exact .refl _ _
    · exact offerMarker_frame _ _ _ _

theorem endHold_frame (hold : Attention) (e : RegimeEntry) (s : State) :
    SameBut answerFields s (endHold hold e s) :=
  ((applyEntry_frame false hold.car hold.serial e s).trans
    ((setMarker_frame _ _).mono (by decide))).trans ((stopWaiting_frame _ _).mono (by decide))

theorem attentionExpiry_frame (s : State) : SameBut answerFields s (attentionExpiry s) := by
  unfold attentionExpiry
  split
  · exact .refl _ _
  · exact (((endHold_frame _ _ s).trans ((setMarker_frame _ _).mono (by decide))).trans
      ((offerReport_frame _ _).mono (by decide))).trans (pass_frame _ _)

/-! ## Sensor monitor -/

/-- What the handling of a SENSOR frame may change. -/
abbrev sensorFields : List Field := [.ports, .counters, .sensor, .line]

theorem reportPair_frame (b : PairState) (c : SensorCause) (ch : Option Channel) (d : Nat)
    (s : State) : SameBut offerFields s (reportPair b c ch d s) := by
  unfold reportPair
  exact .ite (.refl _ _) (offerReport_frame _ _)

theorem loseChannel_frame (x : Channel) (c : SensorCause) (s : State) :
    SameBut sensorFields s (loseChannel x c s) :=
  ((setSensor_frame _ _).mono (by decide)).trans ((reportPair_frame _ _ _ _ _).mono (by decide))

theorem deliverSample_frame (v : Int) (q : SampleQuality) (s : State) :
    SameBut [.line] s (deliverSample v q s) := setLine_frame _ _

theorem takeSample_frame (x : Channel) (v : Sample) (s : State) :
    SameBut sensorFields s (takeSample x v s) := by
  unfold takeSample
  refine SameBut.trans ?_ ((setSensor_frame _ _).mono (by decide))
  have h1 : ∀ b c ch d (t : State) m, SameBut sensorFields t (reportPair b c ch d (t.setSensor m)) :=
    fun b c ch d t m =>
      ((setSensor_frame _ _).mono (by decide)).trans ((reportPair_frame _ _ _ _ _).mono (by decide))
  split
  · exact ((h1 _ _ _ _ _ _).trans (h1 _ _ _ _ _ _)).trans ((deliverSample_frame _ _ _).mono (by decide))
  · exact (h1 _ _ _ _ _ _).trans (h1 _ _ _ _ _ _)

theorem handleSensor_frame (x : Channel) (p : List Byte) (s : State) :
    SameBut sensorFields s (handleSensor x p s) := by
  unfold handleSensor
  split
  · exact .refl _ _
  · split
    · exact takeSample_frame _ _ _
    · split
      · unfold takeFault
        exact .ite (.refl _ _) (loseChannel_frame _ _ _)
      · exact .refl _ _

theorem channelExpiry_frame (x : Channel) (s : State) :
    SameBut sensorFields s (channelExpiry x s) := by
  unfold channelExpiry
  exact .ite (loseChannel_frame _ _ _) (.refl _ _)

/-! ## Intake -/

/-- What the blocks that take frames may change. -/
abbrev blockFields : List Field :=
  [.ports, .counters, .route, .capture, .marker, .book, .line, .odo, .demand, .sensor, .cars]

theorem deliver_frame (role : Role) (p : List Byte) (s : State) :
    SameBut blockFields s (deliver role p s) := by
  cases role with
  | sensorP => exact (handleSensor_frame _ _ _).mono (by decide)
  | sensorQ => exact (handleSensor_frame _ _ _).mono (by decide)
  | odometry => exact (handleOdometry_frame _ _).mono (by decide)
  | markerReader => exact (handleMarker_frame _ _).mono (by decide)
  | unitStatus => exact (handleUnitStatus_frame _ _).mono (by decide)
  | manager => exact .refl _ _

theorem handOver_frame (e : IntakeEntry) (port : Port) (f : Frame) (s : State) :
    SameBut blockFields s (handOver e port f s) := by
  have hb : ∀ x, SameBut blockFields s (s.setBook x) := fun x => (setBook_frame _ _).mono (by decide)
  have hf : ∀ t, SameBut blockFields t (forward port f t) :=
    fun t => (forward_frame _ _ _).mono (by decide)
  unfold handOver
  dsimp only
  split
  · split
    · exact (deliver_frame _ _ _).trans (hf _)
    · split
      · exact ((hb _).trans (hf _)).trans (deliver_frame _ _ _)
      · exact ((hb _).trans (deliver_frame _ _ _)).trans (hf _)
  · exact deliver_frame _ _ _

theorem acceptSeq_frame (i : Fin 16) (n : Byte) (test : SeqTest) (s : State) :
    SameBut [.intake, .counters] s (acceptSeq i n test s) := by
  unfold acceptSeq
  dsimp only
  split
  · exact ((setIntake_frame _ _).mono (by decide)).trans ((setCounters_frame _ _).mono (by decide))
  · exact (setIntake_frame _ _).mono (by decide)

theorem queueRequest_frame (f : Frame) (a : Bool) (s : State) :
    SameBut [.executor, .counters] s (queueRequest f a s) := by
  unfold queueRequest
  exact .ite ((setExecutor_frame _ _).mono (by decide)) ((setCounters_frame _ _).mono (by decide))

theorem acceptRequest_frame (f : Frame) (s : State) :
    SameBut [.intake, .executor, .counters] s (acceptRequest f s) := by
  unfold acceptRequest
  split
  · split
    · exact (queueRequest_frame _ _ _).mono (by decide)
    · split
      · exact .refl _ _
      · exact ((acceptSeq_frame _ _ _ _).mono (by decide)).trans
          ((queueRequest_frame _ _ _).mono (by decide))
  · exact (queueRequest_frame _ _ _).mono (by decide)

/-- What the receipt of a run of bytes may change. -/
abbrev receiveFields : List Field :=
  [.ports, .counters, .route, .capture, .marker, .book, .line, .odo, .demand, .sensor, .cars, .intake,
    .executor]

theorem receiveRun_frame (port : Port) (run : List Byte) (s : State) :
    SameBut receiveFields s (receiveRun port run s) := by
  unfold receiveRun
  split
  · unfold countCheckError
    split <;> exact (setCounters_frame _ _).mono (by decide)
  · unfold intakeFrame
    have hf : ∀ t f, SameBut receiveFields t (forward port f t) :=
      fun t f => (forward_frame _ _ _).mono (by decide)
    split
    · split
      · exact (acceptRequest_frame _ _).mono (by decide)
      · exact hf _ _
    · split
      · exact hf _ _
      · split
        · unfold matchedFrame
          split
          · exact .refl _ _
          · exact ((acceptSeq_frame _ _ _ _).mono (by decide)).trans
              ((handOver_frame _ _ _ _).mono (by decide))
        · exact hf _ _

end Sys2Proof.Machine
end

