-- ==== Sys2Proof/Laws/Requests.lean ====
section
/-! SUPPORT. What the request executor does with the head request, once for all requests: taking it,
reaching the owning block, and placing the reply. -/

namespace Sys2Proof.Machine

/-- A request is taken only while no reply reservation is held. -/
theorem State.canTake_reservation {s : State} (h : s.canTake = true) :
    s.ports.reservation = false := by
  simp [State.canTake] at h; exact h.1.2

/-- A request is taken only while the cold-reset pin is not asserted. -/
theorem State.canTake_running {s : State} (h : s.canTake = true) : s.pins.coldReset = false := by
  simp [State.canTake] at h; exact h.1.1

/-- A request is taken only while the fore-bound queue has a place. -/
theorem State.canTake_place {s : State} (h : s.canTake = true) : s.ports.foreQueue.length < 16 := by
  have r := State.canTake_reservation h
  simp [State.canTake, Ports.foreFree, r] at h
  omega

theorem takeRequest_heads {s : State} {r : Request} {rest : List Request}
    {name : Option RequestName} (h : Heads s r rest) (hn : r.name = name) :
    takeRequest name s = some (r, s.taken rest) := by
  obtain ⟨hq, hc⟩ := h
  simp [takeRequest, hq, hc, hn, State.taken]

/-- The head request is not taken by the command of another. -/
theorem takeRequest_none {s : State} {name : Option RequestName}
    (h : ∀ r rest, Heads s r rest → r.name ≠ name) : takeRequest name s = none := by
  unfold takeRequest
  split
  · rfl
  · rename_i r rest hq
    split
    · rename_i hc
      exact absurd hc.2 (h r rest ⟨hq, hc.1⟩)
    · rfl

/-- What `takeRequest` answers, it answers for the head of the queue. -/
theorem takeRequest_some {s t : State} {r : Request} {name : Option RequestName}
    (h : takeRequest name s = some (r, t)) :
    ∃ rest, Heads s r rest ∧ r.name = name ∧ t = s.taken rest := by
  unfold takeRequest at h
  split at h
  · cases h
  · rename_i x rest hq
    split at h
    · rename_i hc
      cases h
      exact ⟨rest, ⟨hq, hc.1⟩, hc.2, rfl⟩
    · cases h

/-- The reservation plays no part in what a placed reply leaves. -/
theorem Ports.foreAdmit_reserved (p : Ports) (f : Frame) (n : Byte) (h : p.reservation = false) :
    ({ Ports.foreAdmit { ({ p with reservation := true } : Ports) with reservation := false } f with
        foreSeq := n } : Ports) = { Ports.foreAdmit p f with foreSeq := n } := by
  cases p; subst h; rfl

/-- A reply placed on a state whose ports and node address are those of the taking: the ports are
those of `answered`, and everything else is kept. -/
theorem placeReply_of_ports {s u : State} {r : Request} {rest : List Request} (a : Reply)
    (h : Heads s r rest) (hp : u.ports = (s.taken rest).ports)
    (hn : u.nodeAddress = s.nodeAddress) :
    placeReply r a u = u.setPorts (s.answered r rest a).ports := by
  have e := Ports.foreAdmit_reserved s.ports (replyFrame r a s) (s.ports.foreSeq + 1)
    (State.canTake_reservation h.2)
  have hf : replyFrame r a u = replyFrame r a s := by
    simp only [replyFrame, hn, hp]; rfl
  unfold placeReply
  rw [hf, hp]
  exact congrArg u.setPorts e

/-- A reply placed on the state of the taking is `answered`. -/
theorem placeReply_taken {s : State} {r : Request} {rest : List Request} (h : Heads s r rest)
    (a : Reply) : placeReply r a (s.taken rest) = s.answered r rest a := by
  rw [placeReply_of_ports a h rfl rfl]; rfl

/-- A request that reaches its owning block is executed by it, and answered. -/
theorem serve_serves {s : State} {r : Request} {rest : List Request} {name : RequestName}
    {act : List Byte → State → Reply × State} (h : Serves s name r rest) :
    serve name act s =
      placeReply r (act r.payload (s.taken rest)).1 (act r.payload (s.taken rest)).2 := by
  obtain ⟨hh, hn, ha, hl⟩ := h
  simp [serve, takeRequest_heads hh hn, judge, ha, hl]

/-- A request that its owning block refuses changes nothing, and is answered. -/
theorem serve_answers {s : State} {r : Request} {rest : List Request} {name : RequestName}
    {act : List Byte → State → Reply × State} {a : Reply} (h : Serves s name r rest)
    (e : act r.payload (s.taken rest) = (a, s.taken rest)) :
    serve name act s = s.answered r rest a := by
  rw [serve_serves h, e]; exact placeReply_taken h.1 _

/-- A request whose owning block leaves the ports as the taking left them: the block's effect, and the
reply in its place. -/
theorem serve_changes {s u : State} {r : Request} {rest : List Request} {name : RequestName}
    {act : List Byte → State → Reply × State} {a : Reply} (h : Serves s name r rest)
    (e : act r.payload (s.taken rest) = (a, u)) (hp : u.ports = (s.taken rest).ports)
    (hn : u.nodeAddress = s.nodeAddress) :
    serve name act s = u.setPorts (s.answered r rest a).ports := by
  rw [serve_serves h, e]; exact placeReply_of_ports a h.1 hp hn

/-- R172: a request that does not reach its owning block is answered by its standing or its length. -/
theorem serve_denied {s : State} {r : Request} {rest : List Request} {name : RequestName}
    {act : List Byte → State → Reply × State} (h : Heads s r rest) (hn : r.name = some name)
    (ha : r.accepted = false) : serve name act s = s.answered r rest (.bare .denied) := by
  simp only [serve, takeRequest_heads h hn, judge, ha, Bool.not_false, if_true]
  exact placeReply_taken h _

theorem serve_format {s : State} {r : Request} {rest : List Request} {name : RequestName}
    {act : List Byte → State → Reply × State} (h : Heads s r rest) (hn : r.name = some name)
    (ha : r.accepted = true) (hl : lengthFits name r.payload = false) :
    serve name act s = s.answered r rest (.bare .format) := by
  simp only [serve, takeRequest_heads h hn, judge, ha, hl, Bool.not_false, Bool.not_true, if_true,
    Bool.false_eq_true, if_false]
  exact placeReply_taken h _

/-- A request whose head is another's changes nothing. -/
theorem serve_none {s : State} {name : RequestName} {act : List Byte → State → Reply × State}
    (h : ∀ r rest, Heads s r rest → r.name ≠ some name) : serve name act s = s := by
  simp [serve, takeRequest_none h]

/-! ## Reading codes -/

theorem readBool_code (b : Bool) : readBool (boolCode b) = some b := by cases b <;> rfl
theorem readBankCode_code (bank : Bank) : readBankCode bank.code = some bank := by cases bank <;> rfl
theorem readAuthority_code (a : Authority) : readAuthority a.code = some a := by cases a <;> rfl
theorem readRole_code (r : Role) : readRole r.code = some r := by cases r <;> rfl
theorem readOpState_code (x : OpState) : readOpState x.code = some x := by cases x <;> rfl

theorem readFin_val {n : Nat} (i : Fin n) : readFin n i.val = some i := by simp [readFin]

theorem readFin_none {n x : Nat} (h : n ≤ x) : readFin n x = none := by
  simp [readFin, Nat.not_lt.mpr h]

theorem readBool_none {n : Nat} (h : 1 < n) : readBool n = none := by
  unfold readBool; split <;> first | omega | rfl
theorem readBankCode_none {n : Nat} (h : 1 < n) : readBankCode n = none := by
  unfold readBankCode; split <;> first | omega | rfl
theorem readCapMode_none {n : Nat} (h : 1 < n) : readCapMode n = none := by
  unfold readCapMode; split <;> first | omega | rfl
theorem readAuthority_none {n : Nat} (h : 2 < n) : readAuthority n = none := by
  unfold readAuthority; split <;> first | omega | rfl
theorem readOpState_none {n : Nat} (h : 2 < n) : readOpState n = none := by
  unfold readOpState; split <;> first | omega | rfl
theorem readRole_none {n : Nat} (h : 5 < n) : readRole n = none := by
  unfold readRole; split <;> first | omega | rfl

theorem readBool_some {n : Nat} (h : n ≤ 1) : ∃ b, readBool n = some b ∧ n = boolCode b := by
  have : n = 0 ∨ n = 1 := by omega
  rcases this with rfl | rfl
  · exact ⟨false, rfl, rfl⟩
  · exact ⟨true, rfl, rfl⟩

theorem readAuthority_some {n : Nat} (h : n ≤ 2) :
    ∃ a, readAuthority n = some a ∧ n = a.code := by
  have : n = 0 ∨ n = 1 ∨ n = 2 := by omega
  rcases this with rfl | rfl | rfl
  · exact ⟨.none, rfl, rfl⟩
  · exact ⟨.limited, rfl, rfl⟩
  · exact ⟨.full, rfl, rfl⟩

theorem readRole_some {n : Nat} (h : n ≤ 5) : ∃ r, readRole n = some r ∧ n = r.code := by
  have : n = 0 ∨ n = 1 ∨ n = 2 ∨ n = 3 ∨ n = 4 ∨ n = 5 := by omega
  rcases this with rfl | rfl | rfl | rfl | rfl | rfl
  · exact ⟨.sensorP, rfl, rfl⟩
  · exact ⟨.sensorQ, rfl, rfl⟩
  · exact ⟨.odometry, rfl, rfl⟩
  · exact ⟨.markerReader, rfl, rfl⟩
  · exact ⟨.unitStatus, rfl, rfl⟩
  · exact ⟨.manager, rfl, rfl⟩

end Sys2Proof.Machine
end

