-- ==== Sys2Proof/Laws/Shared.lean ====
section
/-! SUPPORT. What the shared operations can do, said once each: bounds and counters, tables over the
twelve positions, the queues and transmitters, offers and reports, one car's records, channels and
banks, the marker queue. -/

namespace Sys2Proof.Machine

/-! ## Arithmetic -/

theorem bound_of_mem {lo hi x : Int} (h1 : lo ≤ x) (h2 : x ≤ hi) : bound lo hi x = x := by
  unfold bound; split
  · omega
  · split
    · omega
    · rfl

theorem bound_mem {lo hi : Int} (h : lo ≤ hi) (x : Int) : lo ≤ bound lo hi x ∧ bound lo hi x ≤ hi := by
  unfold bound; split
  · omega
  · split <;> omega

/-- To bound is to take the lesser of the value and hi, and the greater of that and lo. -/
theorem bound_eq {lo hi : Int} (h : lo ≤ hi) (x : Int) : bound lo hi x = max lo (min hi x) := by
  rcases bound_mem h x with ⟨h1, h2⟩
  unfold bound at *
  split <;> [skip; split] <;> omega

theorem bump_le {n : Nat} (h : n ≤ 65535) : bump n ≤ 65535 := by
  unfold bump; split <;> omega

/-- To cap is to take the lesser code. -/
theorem Authority.cap_code (x y : Authority) : (x.cap y).code = min x.code y.code := by
  cases x <;> cases y <;> rfl

theorem Authority.code_inj {x y : Authority} (h : x.code = y.code) : x = y := by
  cases x <;> cases y <;> first | rfl | cases h

theorem Bank.code_inj {x y : Bank} (h : x.code = y.code) : x = y := by
  cases x <;> cases y <;> first | rfl | cases h

theorem mem_allCars (c : Car) : c ∈ allCars := by revert c; decide

theorem nodup_allCars : allCars.Nodup := by decide

theorem mem_intakeIndexes (i : Fin 16) : i ∈ intakeIndexes := by revert i; decide

theorem tabulate_get {α : Type} (f : Fin 12 → α) (i : Fin 12) : (tabulate f)[i] = f i := by
  revert i
  rw [forall_fin_succ_twelve]
  exact ⟨rfl, rfl, rfl, rfl, rfl, rfl, rfl, rfl, rfl, rfl, rfl, rfl⟩
where
  forall_fin_succ_twelve {p : Fin 12 → Prop} : (∀ i, p i) ↔
      (p 0 ∧ p 1 ∧ p 2 ∧ p 3 ∧ p 4 ∧ p 5 ∧ p 6 ∧ p 7 ∧ p 8 ∧ p 9 ∧ p 10 ∧ p 11) := by
    constructor
    · intro h; exact ⟨h 0, h 1, h 2, h 3, h 4, h 5, h 6, h 7, h 8, h 9, h 10, h 11⟩
    · rintro ⟨h0, h1, h2, h3, h4, h5, h6, h7, h8, h9, h10, h11⟩ i
      have : i = 0 ∨ i = 1 ∨ i = 2 ∨ i = 3 ∨ i = 4 ∨ i = 5 ∨ i = 6 ∨ i = 7 ∨ i = 8 ∨ i = 9 ∨
          i = 10 ∨ i = 11 := by omega
      rcases this with rfl | rfl | rfl | rfl | rfl | rfl | rfl | rfl | rfl | rfl | rfl | rfl <;>
        assumption

/-- A vector with one place replaced, at that place and at any other. -/
theorem vector_set_same {α : Type} {n : Nat} (v : Vector α n) (i : Fin n) (x : α) :
    (v.set i x)[i] = x := by simp

theorem vector_set_other {α : Type} {n : Nat} (v : Vector α n) {i j : Fin n} (x : α) (h : j ≠ i) :
    (v.set i x)[j] = v[j] := by
  have : (i : Nat) ≠ (j : Nat) := fun e => h (Fin.ext e.symm)
  simp [this]

/-! ## Bytes -/

@[simp] theorem be_length (w n : Nat) : (be w n).length = w := by
  induction w with
  | zero => rfl
  | succ w ih => simp [be, ih]

@[simp] theorem beInt_length (w : Nat) (i : Int) : (beInt w i).length = w := be_length _ _

theorem readBytes_append (xs ys : List Byte) :
    readBytes (xs ++ ys) = readBytes xs * 256 ^ ys.length + readBytes ys := by
  have h : ∀ (bs : List Byte) (a : Nat),
      bs.foldl (fun acc b => acc * 256 + b.toNat) a =
        a * 256 ^ bs.length + bs.foldl (fun acc b => acc * 256 + b.toNat) 0 := by
    intro bs
    induction bs with
    | nil => simp
    | cons b bs ih =>
      intro a
      simp only [List.foldl_cons, List.length_cons]
      rw [ih (a * 256 + b.toNat), ih (0 * 256 + b.toNat)]
      ring
  simp only [readBytes, List.foldl_append]
  exact h ys _

/-- Reading the field that `be` writes gives the number back. -/
theorem readBytes_be (w n : Nat) : readBytes (be w n) = n % 256 ^ w := by
  induction w with
  | zero => simp [be, readBytes, Nat.mod_one]
  | succ w ih =>
    have e : be (w + 1) n = [BitVec.ofNat 8 (n / 256 ^ w)] ++ be w n := rfl
    rw [e, readBytes_append, ih, be_length]
    have h1 : readBytes [BitVec.ofNat 8 (n / 256 ^ w)] = n / 256 ^ w % 256 := by
      simp [readBytes]
    rw [h1, Nat.pow_succ, Nat.mod_mul, Nat.mul_comm, Nat.add_comm]

/-! ## Transmitters and queues -/

theorem Ports.foreKick_cases (p : Ports) :
    (p.foreKick = p ∧ (p.foreTx.isSome = true ∨ p.foreQueue = [])) ∨
    ∃ f rest, p.foreTx = none ∧ p.foreQueue = f :: rest ∧
      p.foreKick = { p with foreTx := some f, foreQueue := rest } := by
  unfold Ports.foreKick
  split
  · rename_i f rest h1 h2
    exact .inr ⟨f, rest, h1, h2, rfl⟩
  · rename_i h
    refine .inl ⟨rfl, ?_⟩
    cases ht : p.foreTx with
    | some x => exact .inl rfl
    | none =>
      cases hq : p.foreQueue with
      | nil => exact .inr rfl
      | cons f rest => exact absurd hq (h f rest ht)

theorem Ports.foreKick_other (p : Ports) :
    p.foreKick.aftTx = p.aftTx ∧ p.foreKick.aftSeq = p.aftSeq ∧ p.foreKick.foreSeq = p.foreSeq ∧
    p.foreKick.aftQueue = p.aftQueue ∧ p.foreKick.waiting = p.waiting ∧
    p.foreKick.reservation = p.reservation ∧ p.foreKick.foreQueue.length ≤ p.foreQueue.length := by
  rcases p.foreKick_cases with ⟨h, -⟩ | ⟨f, rest, -, h2, h⟩
  · simp [h]
  · simp [h, h2]

theorem Ports.foreAdmit_other (p : Ports) (f : Frame) :
    (p.foreAdmit f).aftTx = p.aftTx ∧ (p.foreAdmit f).aftSeq = p.aftSeq ∧
    (p.foreAdmit f).foreSeq = p.foreSeq ∧ (p.foreAdmit f).aftQueue = p.aftQueue ∧
    (p.foreAdmit f).waiting = p.waiting ∧ (p.foreAdmit f).reservation = p.reservation ∧
    (p.foreAdmit f).foreQueue.length ≤ p.foreQueue.length + 1 := by
  have h := Ports.foreKick_other { p with foreQueue := p.foreQueue ++ [f] }
  simpa [Ports.foreAdmit] using h

theorem Ports.aftKick_other (node : Byte) (p : Ports) :
    (p.aftKick node).foreTx = p.foreTx ∧ (p.aftKick node).foreSeq = p.foreSeq ∧
    (p.aftKick node).aftSeq = p.aftSeq ∧ (p.aftKick node).foreQueue = p.foreQueue ∧
    (p.aftKick node).reservation = p.reservation ∧
    (p.aftKick node).aftQueue.length ≤ p.aftQueue.length ∧
    ((p.aftKick node).waiting = none ∨ (p.aftKick node).waiting = p.waiting) := by
  unfold Ports.aftKick
  split
  · simp
  · rename_i h; simp [h]
  · simp

theorem Ports.aftAdmit_other (node : Byte) (p : Ports) (f : Frame) :
    (p.aftAdmit node f).foreTx = p.foreTx ∧ (p.aftAdmit node f).foreSeq = p.foreSeq ∧
    (p.aftAdmit node f).aftSeq = p.aftSeq ∧ (p.aftAdmit node f).foreQueue = p.foreQueue ∧
    (p.aftAdmit node f).reservation = p.reservation ∧
    (p.aftAdmit node f).aftQueue.length ≤ p.aftQueue.length + 1 ∧
    ((p.aftAdmit node f).waiting = none ∨ (p.aftAdmit node f).waiting = p.waiting) := by
  have h := Ports.aftKick_other node { p with aftQueue := p.aftQueue ++ [f] }
  simpa [Ports.aftAdmit] using h

/-- R12: an offer of a report, admitted or dropped. -/
theorem offerReport_cases (r : Report) (s : State) :
    (1 ≤ s.ports.foreFree ∧ offerReport r s = s.setPorts
      { s.ports.foreAdmit (reportFrame r s) with foreSeq := s.ports.foreSeq + 1 }) ∨
    (s.ports.foreFree = 0 ∧ offerReport r s = s.setCounters
      { s.counters with reportDrops := bump s.counters.reportDrops }) := by
  unfold offerReport
  split
  · exact .inl ⟨‹_›, rfl⟩
  · exact .inr ⟨by omega, rfl⟩

/-- What an offered report leaves alone in the ports. -/
theorem offerReport_ports (r : Report) (s : State) :
    (offerReport r s).ports.aftTx = s.ports.aftTx ∧ (offerReport r s).ports.aftSeq = s.ports.aftSeq ∧
    (offerReport r s).ports.aftQueue = s.ports.aftQueue ∧
    (offerReport r s).ports.waiting = s.ports.waiting ∧
    (offerReport r s).ports.reservation = s.ports.reservation ∧
    (s.ports.foreQueue.length + (if s.ports.reservation then 1 else 0) ≤ 16 →
      (offerReport r s).ports.foreQueue.length + (if s.ports.reservation then 1 else 0) ≤ 16) := by
  rcases offerReport_cases r s with ⟨h, e⟩ | ⟨-, e⟩
  · obtain ⟨h1, h2, -, h4, h5, h6, h7⟩ := Ports.foreAdmit_other s.ports (reportFrame r s)
    rw [e]
    refine ⟨h1, h2, h4, h5, h6, fun _ => ?_⟩
    simp only [State.setPorts_ports, Ports.foreFree] at *
    omega
  · rw [e]; exact ⟨rfl, rfl, rfl, rfl, rfl, id⟩

/-! ## One car's records -/

@[simp] theorem setChannel_same (c : Car) (x : CarChannel) (s : State) :
    (setChannel c x s).channel c = x := vector_set_same _ _ _

theorem setChannel_other {c d : Car} (x : CarChannel) (s : State) (h : d ≠ c) :
    (setChannel c x s).channel d = s.channel d := vector_set_other _ _ h

@[simp] theorem setRegime_same (c : Car) (x : CarRegime) (s : State) :
    (setRegime c x s).regime c = x := vector_set_same _ _ _

theorem setRegime_other {c d : Car} (x : CarRegime) (s : State) (h : d ≠ c) :
    (setRegime c x s).regime d = s.regime d := vector_set_other _ _ h

/-- R145: what the rewriting of a waiting frame does. -/
theorem parkWaiting_cases (u : UnitId) (s : State) :
    (s.ports.waiting = none ∧ parkWaiting u s = s) ∨
    ∃ w, s.ports.waiting = some w ∧ parkWaiting u s =
      (s.setPorts { s.ports with waiting := some { w with entries := w.entries.set u .parked } }).setCars
        { s.cars with lastHanded := s.cars.lastHanded.set u .parked } := by
  unfold parkWaiting
  split
  · exact .inl ⟨‹_›, rfl⟩
  · exact .inr ⟨_, ‹_›, rfl⟩

/-- R145: the rewriting in the words of the statements. -/
theorem parkWaiting_eq_sentPark (u : UnitId) (s : State) : parkWaiting u s = s.sentPark u := by
  rcases parkWaiting_cases u s with ⟨h, e⟩ | ⟨w, h, e⟩ <;> rw [e] <;> simp [State.sentPark, h]
  · rw [← h]
    rfl
  · rfl

theorem parkWaiting_channel (u : UnitId) (s : State) (c : Car) :
    (parkWaiting u s).channel c = s.channel c := by
  rcases parkWaiting_cases u s with ⟨-, e⟩ | ⟨w, -, e⟩
  · rw [e]
  · rw [e]; rfl

theorem parkWaiting_unitOf (u : UnitId) (s : State) (c : Car) :
    (parkWaiting u s).unitOf c = s.unitOf c := by
  rcases parkWaiting_cases u s with ⟨-, e⟩ | ⟨w, -, e⟩
  · rw [e]
  · rw [e]; rfl

/-- R115, R145: what a car's entry to PARKED, OFF or FAILED leaves in the channel records. -/
theorem enterStill_channel (c : Car) (st : ChanState) (s : State) :
    (enterStill c st s).channel c =
      { s.channel c with state := st, thetaPrev := 0, parkHeld := false,
                         run := if st = .failed then 0 else (s.channel c).run } := by
  unfold enterStill
  rw [parkWaiting_channel, setChannel_same]

theorem enterStill_other {c d : Car} (st : ChanState) (s : State) (h : d ≠ c) :
    (enterStill c st s).channel d = s.channel d := by
  unfold enterStill
  rw [parkWaiting_channel, setChannel_other _ _ h]

/-- A report leaves every channel record as it was. -/
theorem offerReport_channel (r : Report) (s : State) (d : Car) :
    (offerReport r s).channel d = s.channel d := by
  have h := offerReport_frame r s .cars (by decide)
  simp only [Field.same] at h
  simp [State.channel, h]

theorem carReport_channel (c d : Car) (before : ChanState) (cause : CarCause) (s : State) :
    (carReport c before cause s).channel d = s.channel d := by
  have h := carReport_frame c before cause s .cars (by decide)
  simp only [Field.same] at h
  simp [State.channel, h]

/-! What a reported change of one car's channel record does, in the words of the statements. -/

/-- A record that keeps the channel state only replaces the record. -/
theorem carChanged_silent {c : Car} {y : CarChannel} {s : State} (cause : CarCause)
    (h : y.state = (s.channel c).state) : s.carChanged c y cause = setChannel c y s := if_pos h

/-- R137: a change to FOLLOWING, CENTRING or HOLD, reported. -/
theorem carChanged_running {c : Car} {y : CarChannel} {s : State} (cause : CarCause)
    (h : y.state ≠ (s.channel c).state)
    (hy : ¬(y.state = .parked ∨ y.state = .off ∨ y.state = .failed)) :
    s.carChanged c y cause = carReport c (s.channel c).state cause (setChannel c y s) := by
  simp only [State.carChanged, if_neg h, if_neg hy, carReport, setChannel_same]
  rfl

/-- R137, R145: an entry to PARKED or FAILED through `enterStill`, reported. -/
theorem carChanged_still {c : Car} {st : ChanState} {s : State} (cause : CarCause)
    (h : st ≠ (s.channel c).state) (hs : st = .parked ∨ st = .off ∨ st = .failed) :
    carReport c (s.channel c).state cause (enterStill c st s) =
      s.carChanged c ((enterStill c st s).channel c) cause := by
  simp only [State.carChanged, if_neg h, if_pos hs, carReport, enterStill,
    parkWaiting_unitOf, parkWaiting_channel, setChannel_same, ← parkWaiting_eq_sentPark]
  rfl

@[simp] theorem carChanged_channel (c : Car) (y : CarChannel) (cause : CarCause) (s : State) :
    (s.carChanged c y cause).channel c = y := by
  by_cases h : y.state = (s.channel c).state
  · rw [carChanged_silent cause h, setChannel_same]
  · simp only [State.carChanged, if_neg h]
    rw [offerReport_channel]
    split
    · rw [← parkWaiting_eq_sentPark, parkWaiting_channel]
      exact setChannel_same c y s
    · exact setChannel_same c y s

theorem carChanged_other {c d : Car} (y : CarChannel) (cause : CarCause) (s : State) (h : d ≠ c) :
    (s.carChanged c y cause).channel d = s.channel d := by
  simp only [State.carChanged]
  split
  · exact setChannel_other y s h
  · rw [offerReport_channel]
    split
    · rw [← parkWaiting_eq_sentPark, parkWaiting_channel]
      exact setChannel_other y s h
    · exact setChannel_other y s h

/-! A change of one car's channel record leaves the car order map as it was. -/

@[simp] theorem setChannel_order (c : Car) (x : CarChannel) (s : State) :
    (setChannel c x s).cars.order = s.cars.order := rfl

@[simp] theorem parkWaiting_order (u : UnitId) (s : State) :
    (parkWaiting u s).cars.order = s.cars.order := by
  rcases parkWaiting_cases u s with ⟨-, e⟩ | ⟨w, -, e⟩ <;> simp [e]

@[simp] theorem enterStill_order (c : Car) (st : ChanState) (s : State) :
    (enterStill c st s).cars.order = s.cars.order := parkWaiting_order _ _

@[simp] theorem carReport_order (c : Car) (before : ChanState) (cause : CarCause) (s : State) :
    (carReport c before cause s).cars.order = s.cars.order := by
  have h := carReport_frame c before cause s .cars (by decide)
  simp only [Field.same] at h
  rw [h]

theorem trackingTest_order (c : Car) (actual : Int) (s : State) :
    (trackingTest c actual s).cars.order = s.cars.order := by
  simp only [trackingTest]; split <;> [split; skip] <;> simp

theorem unitStateAct_order (c : Car) (u : UnitState) (s : State) :
    (unitStateAct c u s).cars.order = s.cars.order := by
  cases u <;> simp only [unitStateAct] <;> split <;> [split; skip; skip; skip; skip; skip] <;>
    simp [enterFollowing, enterKeeping]

/-- R131, R132: a status taken by one car leaves every car's unit and enabled field as they were, so
that which cars take a status is settled before the first of them does. -/
theorem takeStatus_map (c d : Car) (u : UnitState) (actual : Int) (echo : Word16) (s : State) :
    (takeStatus c u actual echo s).unitOf d = s.unitOf d ∧
    (takeStatus c u actual echo s).enabled d = s.enabled d := by
  constructor
  · have h : (takeStatus c u actual echo s).cars.order = s.cars.order := by
      simp only [takeStatus]
      split <;> [split; skip] <;> simp [trackingTest_order, unitStateAct_order, recordStatus]
    simp only [State.unitOf, h]
  · have h := takeStatus_frame c u actual echo s .demand (by decide)
    simp only [Field.same] at h
    simp only [State.enabled, State.carProfile, h]

/-- One after another: what every car's turn keeps, all of them keep. -/
theorem forCars_keeps {p : State → Prop} {f : Car → State → State}
    (h : ∀ c s, p s → p (f c s)) (s : State) (hs : p s) : p (forCars f s) := by
  unfold forCars
  generalize allCars = l
  induction l generalizing s with
  | nil => exact hs
  | cons c l ih => exact ih _ (h c s hs)

/-- Where each car's turn changes its own channel record alone, and by its own record and facts that
no turn changes, the turns of all cars change each record once. -/
theorem forCars_channel {f : Car → State → State} {g : Car → CarChannel → CarChannel}
    {keep : State → Prop} (hk : ∀ c s, keep s → keep (f c s))
    (hf : ∀ c s, keep s → (f c s).channel c = g c (s.channel c))
    (ho : ∀ c d s, keep s → d ≠ c → (f c s).channel d = s.channel d)
    (s : State) (h : keep s) (c : Car) : (forCars f s).channel c = g c (s.channel c) := by
  have key : ∀ (l : List Car) (s : State), l.Nodup → keep s →
      (l.foldl (fun t c => f c t) s).channel c =
        if c ∈ l then g c (s.channel c) else s.channel c := by
    intro l
    induction l with
    | nil => intro s _ _; rfl
    | cons d l ih =>
      intro s hn hs
      obtain ⟨hd, hl⟩ := List.nodup_cons.1 hn
      simp only [List.foldl_cons]
      rw [ih (f d s) hl (hk d s hs)]
      by_cases e : c = d
      · subst e
        simp [hd, hf c s hs]
      · simp [e, ho d c s hs e]
  have := key allCars s nodup_allCars h
  simpa [forCars, mem_allCars c] using this

/-! ## Channels and banks -/

@[simp] theorem Sensor.setChan_same (m : Sensor) (x : Channel) (r : ChannelRecord) :
    (m.setChan x r).chan x = r := by cases x <;> rfl

@[simp] theorem Sensor.setChan_other (m : Sensor) (x : Channel) (r : ChannelRecord) :
    (m.setChan x r).chan (otherChannel x) = m.chan (otherChannel x) := by cases x <;> rfl

@[simp] theorem Route.setBank_same (r : Route) (bank : Bank) (x : BankRecord) :
    (r.setBank bank x).bank bank = x := by cases bank <;> rfl

@[simp] theorem Route.setBank_other (r : Route) (bank : Bank) (x : BankRecord) :
    (r.setBank bank x).bank bank.other = r.bank bank.other := by cases bank <;> rfl

@[simp] theorem Bank.other_other (bank : Bank) : bank.other.other = bank := by cases bank <;> rfl

theorem Bank.other_ne (bank : Bank) : bank.other ≠ bank := by cases bank <;> decide

theorem Bank.eq_or_other (x y : Bank) : x = y ∨ x = y.other := by
  cases x <;> cases y <;> simp [Bank.other]

/-! ## The marker queue -/

/-- A notice to the route store leaves the marker unit as it was. -/
theorem tellRoute_marker (w : Bool) (bank : Bank) (s : State) :
    (tellRoute w bank s).marker = s.marker := by
  unfold tellRoute
  split
  · rfl
  · exact freePassed_frame bank s .marker (by decide)

/-- R75: what leaves the queue. -/
theorem dropEmptied_marker (w : Bool) (s : State) :
    (dropEmptied w s).marker =
      { s.marker with queue := s.marker.queue.filter (fun m => !m.pending.isEmpty) } := by
  have key : ∀ (l : List Marker) (t : State),
      (l.foldl (fun t m => match m.bank with
        | some bank => tellRoute w bank t
        | none => t) t).marker = t.marker := by
    intro l
    induction l with
    | nil => intro t; rfl
    | cons m l ih =>
      intro t
      simp only [List.foldl_cons]
      rw [ih]
      cases m.bank with
      | none => rfl
      | some bank => exact tellRoute_marker w bank t
  unfold dropEmptied
  exact (key _ _).trans rfl

/-- A regime trigger leaves the marker unit as it was. -/
theorem regimeTrigger_marker (c : Car) (n : Nat) (s : State) :
    (regimeTrigger c n s).marker = s.marker := regimeTrigger_frame c n s .marker (by decide)

/-- R82: what applying an entry leaves in the marker unit. -/
theorem applyEntry_marker (w : Bool) (c : Car) (n : Nat) (e : RegimeEntry) (s : State) :
    (applyEntry w c n e s).marker =
      { s.marker with
        queue := (s.marker.queue.map (Marker.without c n)).filter (fun m => !m.pending.isEmpty),
        cars := s.marker.cars.set c
          { s.regime c with regime := e.next, authority := e.authority } } := by
  unfold applyEntry
  dsimp only
  split
  · rw [regimeTrigger_marker, dropEmptied_marker]; rfl
  · rw [dropEmptied_marker]; rfl

/-- R84: what the arbiter does. -/
theorem arbiter_cases (s : State) :
    arbiter s = s ∨
    ∃ m c, s.marker.attention = none ∧ toServe s s.marker.queue = some (m, c) ∧
      (arbiter s).marker = { s.marker with attention := some {
        serial := m.serial, car := c, cls := m.cls, param := m.param,
        regimeBefore := (s.regime c).regime, copy := s.entry (s.regime c).regime m.cls,
        timer := s.profile.attentionTimeout } } := by
  unfold arbiter
  split
  · rename_i m c h1 h2
    refine .inr ⟨m, c, h1, h2, ?_⟩
    exact offerReport_frame _ _ .marker (by decide)
  · exact .inl rfl

/-- What the arbiter serves waits on the marker it serves it for. -/
theorem toServe_some {s : State} {q : List Marker} {m : Marker} {c : Car}
    (h : toServe s q = some (m, c)) : m ∈ q ∧ (s.regime c).waiting = some m.serial := by
  induction q with
  | nil => cases h
  | cons x q ih =>
    simp only [toServe] at h
    split at h
    · rename_i d hd
      cases h
      exact ⟨by simp, by simpa using List.find?_some hd⟩
    · obtain ⟨h1, h2⟩ := ih h
      exact ⟨by simp [h1], h2⟩

end Sys2Proof.Machine
end

