-- ==== Sys2Proof/Laws/Store.lean ====
section
/-! SUPPORT. The cell store: a read after a write gives the record written, a write leaves every other
slot alone, a write keeps the canonical form, and the line's own operations keep it. -/

namespace Sys2Proof.Machine

theorem Store.wf_nil : Store.wf [] := ⟨List.Pairwise.nil, by simp⟩

theorem Store.wf_cons {k : Nat} {x : CellRecord} {rest : Store} :
    Store.wf ((k, x) :: rest) ↔
      (∀ e ∈ rest, k < e.1) ∧ x ≠ CellRecord.blank ∧ Store.wf rest := by
  simp only [Store.wf, List.pairwise_cons, List.mem_cons, forall_eq_or_imp]
  tauto

/-- A slot below every listed one is not listed. -/
theorem Store.read_below {st : Store} {n : Nat} (h : ∀ e ∈ st, n < e.1) :
    st.read n = CellRecord.blank := by
  induction st with
  | nil => rfl
  | cons e rest ih =>
    obtain ⟨k, x⟩ := e
    have hk : n < k := h (k, x) (by simp)
    simp only [Store.read, if_neg (Nat.ne_of_gt hk)]
    exact ih fun e he => h e (by simp [he])

/-- Nothing is listed that was neither listed before nor the slot written. -/
theorem Store.mem_write {st : Store} {n : Nat} {r : CellRecord} {e : Nat × CellRecord}
    (h : e ∈ st.write n r) : e ∈ st ∨ (e = (n, r) ∧ r ≠ CellRecord.blank) := by
  induction st with
  | nil =>
    simp only [Store.write] at h
    split at h
    · cases h
    · exact .inr ⟨by simpa using h, ‹_›⟩
  | cons c rest ih =>
    obtain ⟨k, x⟩ := c
    simp only [Store.write] at h
    split at h
    · split at h
      · exact .inl h
      · rcases List.mem_cons.1 h with h | h
        · exact .inr ⟨h, ‹_›⟩
        · exact .inl h
    · split at h
      · split at h
        · exact .inl (List.mem_cons_of_mem _ h)
        · rcases List.mem_cons.1 h with h | h
          · exact .inr ⟨h, ‹_›⟩
          · exact .inl (List.mem_cons_of_mem _ h)
      · rcases List.mem_cons.1 h with h | h
        · exact .inl (by simp [h])
        · rcases ih h with h | h
          · exact .inl (List.mem_cons_of_mem _ h)
          · exact .inr h

/-- A write keeps the canonical form. -/
theorem Store.write_wf {st : Store} (n : Nat) (r : CellRecord) (h : st.wf) : (st.write n r).wf := by
  induction st with
  | nil =>
    simp only [Store.write]
    split
    · exact Store.wf_nil
    · exact Store.wf_cons.2 ⟨by simp, ‹_›, Store.wf_nil⟩
  | cons c rest ih =>
    obtain ⟨k, x⟩ := c
    obtain ⟨hk, hx, hr⟩ := Store.wf_cons.1 h
    simp only [Store.write]
    split
    · rename_i hn
      split
      · exact h
      · refine Store.wf_cons.2 ⟨?_, ‹_›, h⟩
        intro e he
        rcases List.mem_cons.1 he with rfl | he
        · exact hn
        · exact Nat.lt_trans hn (hk e he)
    · split
      · rename_i hn
        subst hn
        split
        · exact hr
        · exact Store.wf_cons.2 ⟨hk, ‹_›, hr⟩
      · rename_i h1 h2
        refine Store.wf_cons.2 ⟨?_, hx, ih hr⟩
        intro e he
        rcases Store.mem_write he with he | ⟨rfl, -⟩
        · exact hk e he
        · exact Nat.lt_of_le_of_ne (Nat.not_lt.1 h1) (Ne.symm h2)

/-- R54: a read of a slot after a write to it gives the record written. -/
theorem Store.read_write_same {st : Store} (n : Nat) (r : CellRecord) (h : st.wf) :
    (st.write n r).read n = r := by
  induction st with
  | nil =>
    simp only [Store.write]
    split
    · rename_i hr; exact hr.symm
    · simp [Store.read]
  | cons c rest ih =>
    obtain ⟨k, x⟩ := c
    obtain ⟨hk, -, hr⟩ := Store.wf_cons.1 h
    simp only [Store.write]
    split
    · rename_i hn
      split
      · rename_i hb
        rw [hb]
        refine Store.read_below ?_
        intro e he
        rcases List.mem_cons.1 he with rfl | he
        · exact hn
        · exact Nat.lt_trans hn (hk e he)
      · simp [Store.read]
    · split
      · rename_i hn
        subst hn
        split
        · rename_i hb
          rw [hb]
          exact Store.read_below hk
        · simp [Store.read]
      · rename_i h1 h2
        simp only [Store.read, if_neg (Ne.symm h2)]
        exact ih hr

/-- R61: a write leaves every other slot as it was. -/
theorem Store.read_write_other {st : Store} {n m : Nat} (r : CellRecord) (h : st.wf)
    (hm : m ≠ n) : (st.write n r).read m = st.read m := by
  induction st with
  | nil =>
    simp only [Store.write]
    split
    · rfl
    · simp [Store.read, Ne.symm hm]
  | cons c rest ih =>
    obtain ⟨k, x⟩ := c
    obtain ⟨hk, -, hr⟩ := Store.wf_cons.1 h
    simp only [Store.write]
    split
    · split
      · rfl
      · simp [Store.read, Ne.symm hm]
    · split
      · rename_i hn
        subst hn
        split
        · simp [Store.read, Ne.symm hm]
        · simp [Store.read, Ne.symm hm]
      · simp only [Store.read]
        split
        · rfl
        · exact ih hr

theorem reset_store_wf : State.reset.line.store.wf := Store.wf_nil

/-! ## The line -/

@[simp] theorem Line.put_inputCell (l : Line) (len : Nat) (r : CellRecord) :
    (l.put len r).inputCell = l.inputCell := rfl
@[simp] theorem Line.put_clearMark (l : Line) (len : Nat) (r : CellRecord) :
    (l.put len r).clearMark = l.clearMark := rfl
@[simp] theorem Line.put_acc (l : Line) (len : Nat) (r : CellRecord) : (l.put len r).acc = l.acc := rfl
@[simp] theorem Line.put_heldRun (l : Line) (len : Nat) (r : CellRecord) :
    (l.put len r).heldRun = l.heldRun := rfl

theorem Line.put_wf {l : Line} (len : Nat) (r : CellRecord) (h : l.store.wf) :
    (l.put len r).store.wf := Store.write_wf _ _ h

/-- Closing skipped cells touches the store and the held-run count alone. -/
theorem Line.closeSkipped_keeps (len limit n : Nat) (cell : Int) (below : CellRecord) (l : Line) :
    (Line.closeSkipped len limit n cell below l).inputCell = l.inputCell ∧
    (Line.closeSkipped len limit n cell below l).clearMark = l.clearMark ∧
    (Line.closeSkipped len limit n cell below l).acc = l.acc ∧
    (l.store.wf → (Line.closeSkipped len limit n cell below l).store.wf) := by
  induction n generalizing cell below l with
  | zero => exact ⟨rfl, rfl, rfl, id⟩
  | succ n ih =>
    simp only [Line.closeSkipped]
    obtain ⟨h1, h2, h3, h4⟩ := ih (cell + 1) (closedSkipped cell below limit l.heldRun).1
      { l.put len (closedSkipped cell below limit l.heldRun).1 with
        heldRun := (closedSkipped cell below limit l.heldRun).2 }
    exact ⟨h1, h2, h3, fun h => h4 (Line.put_wf len _ h)⟩

/-- R57: what an advance leaves besides the records. -/
theorem Line.advance_keeps (l : Line) (len limit : Nat) (pair : PairState) (k : Nat) :
    (l.advance len limit pair k).inputCell = l.inputCell + k ∧
    (l.advance len limit pair k).clearMark = l.clearMark ∧
    (l.advance len limit pair k).acc = .empty ∧
    (l.store.wf → (l.advance len limit pair k).store.wf) := by
  refine ⟨rfl, ?_, rfl, ?_⟩
  · simp only [Line.advance]
    exact (Line.closeSkipped_keeps len limit (k - 1) _ _ _).2.1
  · intro h
    simp only [Line.advance]
    exact (Line.closeSkipped_keeps len limit (k - 1) _ _ _).2.2.2 (Line.put_wf len _ h)

/-- R65: what a line clear leaves. -/
theorem Line.cleared_keeps (l : Line) :
    l.cleared.inputCell = l.inputCell ∧ l.cleared.clearMark = l.inputCell ∧
    l.cleared.acc = .empty ∧ l.cleared.heldRun = 0 ∧ l.cleared.store = l.store :=
  ⟨rfl, rfl, rfl, rfl, rfl⟩

/-- R57: an advance that is cut never passes the largest cell number. -/
theorem Line.cut_le (l : Line) (k : Nat) : l.cut k ≤ k := Nat.min_le_left _ _

theorem Line.cut_stays {l : Line} (h : l.inputCell ≤ maxCell) (k : Nat) :
    l.inputCell + l.cut k ≤ maxCell := by
  have : l.cut k ≤ maxCell - l.inputCell := Nat.min_le_right _ _
  omega

/-! ## Reads of the line -/

/-- R62: a read of a readable cell gives the record in its slot. -/
theorem Line.tapRead_of {l : Line} {len : Nat} {n : Int} (h1 : (l.clearMark : Int) ≤ n)
    (h2 : n ≤ l.inputCell - 1) (h3 : (l.inputCell : Int) - 1 - len < n) :
    l.tapRead len n = l.store.read (slotOf len n) := by
  unfold Line.tapRead Line.readable Line.newest
  simp [h1, h2, h3]

/-- R54: two cells less than a line length apart stand in different slots. -/
theorem slotOf_ne {len : Nat} (hl : 1 ≤ len) {a b : Int} (h : a < b) (h2 : b < a + len) :
    slotOf len a ≠ slotOf len b := by
  unfold slotOf
  intro he
  have hp : (0 : Int) < len := by omega
  have e1 := Int.emod_nonneg a (ne_of_gt hp)
  have e2 := Int.emod_nonneg b (ne_of_gt hp)
  have e : a % (len : Int) = b % (len : Int) := by omega
  obtain ⟨k, hk⟩ : (len : Int) ∣ b - a :=
    Int.dvd_iff_emod_eq_zero.2 (by rw [Int.sub_emod, e]; simp)
  have : 0 < k := by nlinarith
  nlinarith

/-- R60: what closing `n` skipped cells from `cell` upward writes. Every slot of a cell below `cell`
that is less than a line length below the last of them is as it was; each skipped cell is HELD with
the value below it while the held-run count stays within the limit, and VOID from there on. -/
theorem Line.closeSkipped_read {len : Nat} (limit : Nat) (hl : 1 ≤ len) :
    ∀ (n : Nat) (cell : Int) (below : CellRecord) (l : Line), l.store.wf → (n : Int) ≤ len →
    (∀ m : Int, m < cell → cell + n ≤ m + len →
      (Line.closeSkipped len limit n cell below l).store.read (slotOf len m) =
        l.store.read (slotOf len m)) ∧
    (∀ i : Nat, i < n →
      (Line.closeSkipped len limit n cell below l).store.read (slotOf len (cell + i)) =
        if below.quality ≠ .void ∧ l.heldRun + i + 1 ≤ limit then
          ⟨cell + i, below.value, .held, 0⟩ else .void (cell + i)) := by
  intro n
  induction n with
  | zero => intro cell below l h _; exact ⟨fun m _ _ => rfl, fun i hi => absurd hi (by omega)⟩
  | succ n ih =>
    intro cell below l h hn
    simp only [Line.closeSkipped]
    set x := closedSkipped cell below limit l.heldRun with hx
    set l' : Line := { l.put len x.1 with heldRun := x.2 } with hl'
    have hc : x.1.cell = cell := by rw [hx]; unfold closedSkipped; split <;> rfl
    have hw : l'.store.wf := Line.put_wf len _ h
    obtain ⟨a, b⟩ := ih (cell + 1) x.1 l' hw (by omega)
    have hst : l'.store = l.store.write (slotOf len cell) x.1 := by
      show l.store.write (slotOf len x.1.cell) x.1 = _; rw [hc]
    constructor
    · intro m h1 h2
      push_cast at h2
      rw [a m (by omega) (by omega), hst,
        Store.read_write_other _ h (slotOf_ne hl h1 (by omega))]
    · intro i hi
      cases i with
      | zero =>
        have := a cell (by omega) (by omega)
        simp only [Nat.cast_zero, add_zero] at this ⊢
        rw [this, hst, Store.read_write_same _ _ h, hx]
        unfold closedSkipped heldRecord
        by_cases hv : below.quality = .void
        · simp [hv]
        · by_cases hr : limit ≤ l.heldRun
          · simp [hr, show ¬ l.heldRun + 1 ≤ limit by omega]
          · simp [hr, hv, show l.heldRun + 1 ≤ limit by omega]
      | succ i =>
        have := b i (by omega)
        rw [show cell + ((i+1:Nat):Int) = cell + 1 + i by push_cast; ring, this, hx]
        simp only [hl', hx]
        unfold closedSkipped heldRecord CellRecord.void
        by_cases hv : below.quality = .void
        · simp [hv]
        · by_cases hr : limit ≤ l.heldRun
          · simp [hr, show ¬ l.heldRun + (i+1)+1 ≤ limit by omega]
          · simp only [hv, hr, or_self, if_false, ne_eq, not_false_eq_true, true_and]
            congr 1
            simp; omega

end Sys2Proof.Machine
end

