-- ==== Sys2Proof/WellFormed.lean ====
section
/-! DEFINITION. Which commands are well formed. Every operand type of Syntax.lean is exact: a
port, a channel, the level of eight straps, and a delimited run of bytes, which R1 judges whatever
its length is, the empty run included. So every command is well formed, and there is no check that
an ill-formed term could fail. -/

namespace Sys2Proof

/-- Every command is well formed, constructor by constructor. -/
def Instr.wellFormed (i : Instr) : Bool :=
  match i with
  | .coldResetAssert => true
  | .coldResetRelease _ => true
  | .portFrameReceived _ _ => true
  | .aftTransmitEnd => true
  | .foreTransmitEnd => true
  | .odometryTimeout => true
  | .channelTimeout _ => true
  | .commandTimerExpiry => true
  | .attentionTimerExpiry => true
  | .readStatus => true
  | .readCar => true
  | .readMarkers => true
  | .readBank => true
  | .setState => true
  | .warmRestart => true
  | .setLineProfile => true
  | .setCarProfile => true
  | .setCarOrder => true
  | .clearCar => true
  | .setIntakeEntry => true
  | .setRegimeEntry => true
  | .attentionRelease => true
  | .clearMarkerLoss => true
  | .routeOpen => true
  | .routePoints => true
  | .routeClose => true
  | .routeDiscard => true
  | .captureStart => true
  | .captureRead => true
  | .captureRelease => true
  | .unknownRequest => true

end Sys2Proof
end

