-- ==== Sys2Proof/Tests/Slice0.lean ====
section
/-! SUPPORT. Tests. First the manual's worked examples and tables, each a small theorem about one
step of one operation; then, for every statement that has hypotheses, a state and operands that
meet them all. No expected value comes from the model itself. -/

set_option Elab.async false

namespace Sys2Proof.Tests

open Sys2Proof Sys2Proof.Machine

/-! ## Small states -/

/-- The state that a command leaves. -/
def next (o : Host.Outcome State Fault Refusal) : State :=
  match o with
  | .next t => t
  | _ => State.reset

/-- A request of a code and a payload, tag 7, from node 5. -/
def req (code : Byte) (p : List Byte) : Request := ⟨[code, 0, 7] ++ p, 5, true⟩

/-- The state with one request waiting. -/
def asking (code : Byte) (p : List Byte) (s : State) : State :=
  s.setExecutor { s.executor with queue := [req code p] }

/-- The bytes of a frame from node 12 as they stand on the lane. -/
def lane (cls seq : Byte) (p : List Byte) : List Byte := (madeFrame 12 255 cls seq p).bytes

/-- The payloads of the frames in the fore port: the one being sent, then the waiting ones. -/
def sent (s : State) : List (List Byte) :=
  (s.ports.foreTx.toList ++ s.ports.foreQueue).map (fun f => f.payload)

/-- The state in another operating state. -/
def opIn (x : OpState) (s : State) : State := s.setExecutor { s.executor with opState := x }

/-- A car enabled with a profile, in a channel state. -/
def carIn (c : Car) (st : ChanState) (theta : Int) (p : CarProfile) (s : State) : State :=
  (setChannel c { s.channel c with state := st, thetaPrev := theta } s).setDemand
    { s.demand with profiles := s.demand.profiles.set c p }

/-- A profile with a tap offset. -/
def prof (tap : Nat) : CarProfile :=
  { enabled := true, tapOffset := tap, preview := 0, gain := 256, fullLimit := 800,
    limitedLimit := 400, rateStep := 4, weight := 0 }

/-- The line at an input cell and a clear mark. -/
def lineAt (input mark : Nat) (s : State) : State :=
  s.setLine { s.line with inputCell := input, clearMark := mark }

/-- The odometry unit TRACKING. -/
def trackingAt (d : Distance) (remainder debt : Nat) (s : State) : State :=
  s.setOdo { s.odo with state := .tracking, lastDistance := d, remainder := remainder, debt := debt,
                        timeout := some 100 }

/-- A regime table entry written. -/
def entryAt (r : Regime) (cls : MarkerClass) (e : RegimeEntry) (s : State) : State :=
  writeEntry r cls e s

/-- A car at a regime and an authority. -/
def regimeAt (c : Car) (r : Regime) (a : Authority) (s : State) : State :=
  setRegime c ⟨r, a, none⟩ s

/-! ## Chapter 1 -/

/-- R2: the published check value of this polynomial and preset over the digits 1 to 9. -/
theorem test_check_of_digits :
    frameCheck [0x31, 0x32, 0x33, 0x34, 0x35, 0x36, 0x37, 0x38, 0x39] = 0x29B1 := by
  decide +kernel

/-- Section 1.8: the intake table of the worked example, node address 9. -/
def intakeExample : State :=
  (State.reset.setNodeAddress 9).setIntake
    (((((intakeReset.set 0 ⟨some ⟨12, 0x10, .sensorP, false⟩, some 203⟩).set 1
      ⟨some ⟨13, 0x10, .sensorQ, false⟩, some 202⟩).set 2
      ⟨some ⟨20, 0x11, .odometry, true⟩, none⟩).set 3
      ⟨some ⟨30, 0x12, .markerReader, false⟩, some 4⟩).set 4
      ⟨some ⟨2, 0x30, .manager, false⟩, some 66⟩)

/-- A sensor frame of source 12 whose sequence 206 follows 203 is accepted and counts one gap. -/
theorem test_sequence_gap :
    (next (exec (.portFrameReceived .fore (lane 0x10 206 [0, 9, 0, 40, 0])) intakeExample)).counters
      = { Counters.reset with seqGaps := 1 } := by decide +kernel

/-- The same frame with the sequence 203 that the memory holds is a duplicate. -/
theorem test_duplicate_ignored :
    next (exec (.portFrameReceived .fore (lane 0x10 203 [0, 9, 0, 40, 0])) intakeExample)
      = intakeExample := by decide +kernel

/-- Section 1.9: a fore port whose queue holds `n` frames, its transmitter busy. -/
def foreWith (n : Nat) (reserved : Bool) : State :=
  State.reset.setPorts
    { Ports.reset with foreTx := some (madeFrame 9 0 0x32 0 []),
                       foreQueue := List.replicate n (madeFrame 9 0 0x32 0 []),
                       reservation := reserved }

/-- Section 1.9 steps 1 and 2: with 3 free places a forwarded frame is admitted, with 2 refused. -/
theorem test_fore_admission :
    (forward .aft (madeFrame 9 0 0x40 0 []) (foreWith 12 true)).ports.foreFree = 2 ∧
    (forward .aft (madeFrame 9 0 0x40 0 []) (foreWith 13 true)).counters.foreDrops = 1 := by
  decide +kernel

/-- Section 1.9 steps 5 and 6: the reply takes the reserved place, and the next report is dropped. -/
theorem test_reply_takes_reserved_place :
    let s := placeReply (req 1 []) (.bare .ok) (foreWith 15 true)
    s.ports.foreQueue.length = 16 ∧ s.ports.foreSeq = 1 ∧
    (offerReport (.odometry .lost .lost 0 none) s).counters.reportDrops = 1 ∧
    (offerReport (.odometry .lost .lost 0 none) s).ports.foreSeq = 1 := by decide +kernel

/-- R11: the COMMAND frame that waits goes before the head of the aft-bound queue. -/
theorem test_command_before_queue :
    let w : CommandFrame := { seq := 3, commandSeq := 40, entries := Vector.replicate 12 .parked }
    let f := madeFrame 9 0 0x40 0 []
    let s := State.reset.setPorts
      { Ports.reset with aftTx := some f, waiting := some w, aftQueue := [f] }
    let t := next (exec .aftTransmitEnd s)
    t.ports.waiting = none ∧ t.ports.aftQueue = [f] ∧
    t.ports.aftTx.map (fun x => (x.cls, x.seq, x.payload.take 5)) =
      some (0x20, 3, [0, 40, 0, 0, 0]) := by decide +kernel

/-- R13: the fore transmitter begins the head frame. -/
theorem test_fore_end_begins_head :
    (next (exec .foreTransmitEnd (foreWith 16 false))).ports.foreQueue.length = 15 := by
  decide +kernel

/-! ## Chapter 2 -/

/-- Section 2.9 rows 2, 3, 5 and 7: cells, remainder and debt. -/
theorem test_forward_steps :
    forwardStep 130 0 0 = ⟨0, 30, 2, false⟩ ∧ forwardStep 140 70 30 = ⟨0, 0, 2, false⟩ ∧
    forwardStep 5785 0 15 = ⟨0, 0, 64, true⟩ := by decide +kernel

/-- Section 2.10: the counter wraps; 196 cm with remainder 40 advance 4 cells and leave 36. -/
theorem test_counter_wraps :
    let s := trackingAt 4294967200 40 0 (lineAt 812300 0 .reset)
    let t := takeOdometry 100 40 false s
    t.line.inputCell = 812304 ∧ t.odo.remainder = 36 := by decide +kernel

/-- Section 2.9: the stamp conversions after row 5. -/
theorem test_stamp_conversions :
    let s := trackingAt 1000200 0 0 (lineAt 5004 5000 .reset)
    convertStamp 1000080 s = .cell 5001 ∧ convertStamp 996000 s = .stale := by decide +kernel

/-- Section 2.9 row 9: the timeout expires; speed 0, LOST. -/
theorem test_odometry_timeout :
    let t := next (exec .odometryTimeout (trackingAt 999000 0 0 .reset))
    t.odo.state = .lost ∧ t.odo.speed = 0 ∧
    sent t = [[4, 0, 2, 0, 0, 0, 0, 0, 0, 0, 0, 0, 0, 0]] := by decide +kernel

/-! ## Chapter 3 -/

/-- Section 3.8 row 8: the window of row 6 and Q's record before it. -/
def rowSeven : State :=
  State.reset.setSensor
    { chP := ⟨.good, 32, some ⟨103, 64⟩, false, some 25⟩,
      chQ := ⟨.good, 32, some ⟨102, 61⟩, true, some 25⟩,
      pairState := .singleP, window := [⟨40, 46⟩, ⟨52, 50⟩, ⟨58, 61⟩],
      disagreeRun := 0, agreeRun := 0 }

/-- Section 3.8 row 8: DUAL, 67 to the line, and a SENSOR report with window sum 16. -/
theorem test_joining_completes :
    let t := takeSample .q ⟨103, 69⟩ rowSeven
    t.sensor.pairState = .dual ∧ t.line.acc = ⟨67, 1, some .dual⟩ ∧
    sent t = [[3, 1, 3, 3, 0, 2, 2, 0, 16]] := by decide +kernel

/-- Section 3.8 case A: after row 11, Q's loss leaves SINGLE_P. -/
theorem test_channel_loss :
    let s := State.reset.setSensor { rowSeven.sensor with pairState := .disagree }
    let t := next (exec (.channelTimeout .q) s)
    t.sensor.pairState = .singleP ∧ t.sensor.window = [] ∧ t.sensor.chQ = .reset := by
  decide +kernel

/-! ## Chapter 4 -/

/-- Section 4.7 step 3: an empty open cell above 53 at DUAL closes HELD, and so do two skipped. -/
theorem test_held_cells :
    let l : Line :=
      { inputCell := 2001, clearMark := 0, acc := .empty, heldRun := 0,
        store := [(2000, ⟨2000, 53, .single, 3⟩)] }
    let t := l.advance 4096 3 .dual 3
    t.heldRun = 3 ∧ t.tapRead 4096 2003 = ⟨2003, 53, .held, 0⟩ := by decide +kernel

/-- Section 4.7 step 5: 121/2 rounds to 61, and the run starts again. -/
theorem test_rounded_cell :
    let l : Line :=
      { inputCell := 2004, clearMark := 0, acc := ⟨121, 2, some .dual⟩, heldRun := 3, store := [] }
    let t := l.advance 4096 3 .dual 2
    t.heldRun = 1 ∧ t.tapRead 4096 2004 = ⟨2004, 61, .dual, 2⟩ ∧
    t.tapRead 4096 2005 = ⟨2005, 61, .held, 0⟩ := by decide +kernel

/-- Section 4.8: slots, and a cell whose slot has been taken. -/
theorem test_slots_and_reads :
    slotOf 1024 2999 = 951 ∧ slotOf 1024 1977 = 953 ∧
    ({ inputCell := 3000, clearMark := 1500, acc := .empty, heldRun := 0,
       store := [(875, ⟨2923, 7, .dual, 1⟩)] } : Line).tapRead 1024 1899 = .void 1899 := by
  decide +kernel

/-! ## Chapter 5 -/

/-- Section 5.9 before step 1: three cars, newest closed cell 10,000, serial counter 41. -/
def threeCars : State :=
  let s := trackingAt 500000 0 0 (lineAt 10001 0 .reset)
  let s := carIn 0 .parked 0 (prof 0) (carIn 1 .parked 0 (prof 40) (carIn 2 .parked 0 (prof 80) s))
  let s := regimeAt 0 0 .full (regimeAt 1 0 .full (regimeAt 2 0 .full s))
  let s := entryAt 0 3 ⟨1, .limited, false, false⟩ (entryAt 1 4 ⟨0, .full, false, false⟩ s)
  s.setMarker { s.marker with serialCounter := 41 }

/-- Section 5.9 step 1: the marker is queued as 41 at cell 9,996 and car 0 applies it. -/
theorem test_restriction_begins :
    let t := offerMarker 3 9 (500000 - 200) threeCars
    t.marker.queue = [⟨41, .track, 3, 9, 9996, none, [1, 2]⟩] ∧
    t.regime 0 = ⟨1, .limited, none⟩ ∧ t.regime 1 = ⟨0, .full, none⟩ := by decide +kernel

/-- Section 5.10 before step 1, at newest closed cell 20,004: a marker whose entry has attention. -/
def heldCars : State :=
  let s := lineAt 20005 0 .reset
  let s := carIn 0 .parked 0 (prof 0) (carIn 1 .parked 0 (prof 40) s)
  let s := regimeAt 0 0 .full (regimeAt 1 0 .full s)
  let s := entryAt 0 7 ⟨3, .full, true, false⟩ (entryAt 3 8 ⟨0, .full, false, false⟩ s)
  s.setMarker { s.marker with
    serialCounter := 52,
    queue := [⟨50, .track, 7, 12, 20000, none, [0, 1]⟩, ⟨51, .track, 8, 12, 20010, none, [0, 1]⟩] }

/-- Section 5.10 step 1: car 0 waits on 50, the arbiter serves it for 400 ms. -/
theorem test_hold_begins :
    let t := pass false heldCars
    t.regime 0 = ⟨0, .full, some 50⟩ ∧
    t.marker.attention = some ⟨50, 0, 7, 12, 0, ⟨3, .full, true, false⟩, 400⟩ := by decide +kernel

/-- R87: the timer expires; car 0 takes regime 3 at LIMITED. -/
theorem test_hold_times_out :
    let t := next (exec .attentionTimerExpiry (pass false heldCars))
    t.regime 0 = ⟨3, .limited, none⟩ ∧ t.marker.attention = none ∧
    t.marker.lastTimedOut = some 50 := by decide +kernel

/-! ## Chapter 6 -/

/-- Section 6.10: the last three points, at offsets 411, 455 and 519. -/
theorem test_lookups :
    let ps : List Point := [⟨400, 2281, 51, .full⟩, ⟨440, 4562, 102, .full⟩, ⟨470, 4562, 99, .limited⟩]
    lookPoints ps 411 = some ⟨2908, 65, .full⟩ ∧ lookPoints ps 455 = some ⟨4562, 100, .full⟩ ∧
    lookPoints ps 469 = some ⟨4562, 99, .full⟩ ∧ lookPoints ps 519 = some ⟨4562, 99, .limited⟩ := by
  decide +kernel

/-- Section 6.9 step 1: A ends at 10,800 and B chains there. -/
theorem test_section_chains :
    let h : SectionHeader := { sectionId := 274, length := 1000, anchor := none, endClass := 6 }
    let s := (lineAt 10803 0 .reset).setRoute
      { a := ⟨.inUse, some h, some 9800, [⟨0, 0, 0, .full⟩]⟩,
        b := ⟨.ready, some { h with sectionId := 275, length := 2400 }, none, [⟨0, 0, 0, .full⟩]⟩ }
    let s := carIn 1 .parked 0 (prof 300) s
    let t := endTest s
    t.route.a.state = .draining ∧ t.route.b.state = .inUse ∧ t.route.b.startCell = some 10800 ∧
    t.marker.queue.map (fun m => (m.cell, m.param, m.bank)) = [(10800, 18, some .a)] := by
  decide +kernel

/-! ## Chapters 7 and 8 -/

/-- R113: ties go away from zero. -/
theorem test_nearest : nearest 133 2 = 67 ∧ nearest (-237) 2 = -119 ∧ nearest 121 2 = 61 ∧
    nearest (-3 * 15) 30 = -2 ∧ nearest 0 5 = 0 := by decide +kernel

/-- Section 8.11: car 5 on unit 7, FOLLOWING at 300. -/
def busyUnit : State :=
  let s := carIn 5 .following 300 (prof 0) (opIn .active .reset)
  s.setCars { s.cars with order := (s.cars.order.set 5 7).set 7 5 }

/-- Section 8.11 steps 2 and 3, θ_prev 304: run 1, run 2, and HOLD on BUSY. -/
theorem test_busy_unit :
    let s := setChannel 5 { busyUnit.channel 5 with thetaPrev := 304 } busyUnit
    let t := takeUnitStatus 7 .ready 120 811 s
    let u := takeUnitStatus 7 .busy 135 811 t
    (t.channel 5).run = 1 ∧ (t.channel 5).state = .following ∧
    (u.channel 5).run = 2 ∧ (u.channel 5).state = .hold ∧ (u.channel 5).thetaPrev = 304 := by
  decide +kernel

/-- Section 8.11 step 5: the frame still carries HOLD 304, then the ageing makes the car FAILED. -/
theorem test_silent_unit_fails :
    let s := setChannel 5
      { busyUnit.channel 5 with state := .hold, thetaPrev := 304, age := 19 } busyUnit
    let t := next (exec .commandTimerExpiry s)
    t.cars.lastHanded[7] = ⟨.hold, 304⟩ ∧ (t.channel 5).state = .failed ∧
    (t.channel 5).thetaPrev = 0 ∧ (t.channel 5).age = 20 := by decide +kernel

/-- Section 8.12: a PARKED car whose unit was last handed TILT is held until PARK is handed. -/
theorem test_park_before_tilt :
    let s := carIn 2 .parked 0 (prof 0) (opIn .standby .reset)
    let s := s.setCars { s.cars with lastHanded := s.cars.lastHanded.set 2 ⟨.tilt, 504⟩ }
    let t := next (exec .setState (asking 5 [2] s))
    let u := next (exec .commandTimerExpiry t)
    (t.channel 2).state = .parked ∧ (t.channel 2).parkHeld = true ∧
    u.cars.lastHanded[2] = ⟨.park, 0⟩ ∧ (u.channel 2).state = .following := by decide +kernel

/-! ## Chapter 9 -/

/-- Section 9.8 step 1: the check fails at item 3, position 3, detail 2,050. -/
theorem test_leave_check_taps :
    let s := State.reset.setProfile { LineProfile.reset with lineLength := 2048 }
    let s := carIn 0 .parked 0 { prof 0 with preview := 30 }
      (carIn 3 .parked 0 { prof 2040 with preview := 10 } s)
    leaveCheck s = some ⟨3, some 3, 2050⟩ := by decide +kernel

/-- Section 9.8 steps 3 and 5: the role missing, and BUSY at age 1. -/
theorem test_leave_check_roles :
    let s := carIn 2 .parked 0 (prof 400) intakeExample
    let t := setChannel 2 { s.channel 2 with age := 1, lastState := some .busy } s
    leaveCheck (s.setIntake (s.intake.set 1 ⟨none, none⟩)) = some ⟨4, none, 1⟩ ∧
    leaveCheck t = some ⟨5, some 2, 1 * 256 + 1⟩ := by decide +kernel

/-- Section 9.9: Set State STANDBY leaves car 1 CENTRING at 300 and car 4 HOLD at −120; the next
period brings car 1 to 296. -/
theorem test_standby_centres :
    let s := carIn 1 .following 300 (prof 0) (carIn 4 .hold (-120) (prof 0) (opIn .active .reset))
    let t := next (exec .setState (asking 5 [1] s))
    let u := next (exec .commandTimerExpiry t)
    (t.channel 1).state = .centring ∧ (t.channel 1).thetaPrev = 300 ∧
    (t.channel 4).state = .hold ∧ (u.channel 1).thetaPrev = 296 ∧
    (u.channel 4).thetaPrev = -120 := by decide +kernel

/-- R158: a Warm Restart in ACTIVE leaves SAFE, its reply first and the STATE report behind it. -/
theorem test_warm_restart :
    let t := next (exec .warmRestart (asking 6 [] (opIn .active .reset)))
    t.executor.opState = .safe ∧ (sent t).map (fun p => p.take 4) = [[6, 0, 7, 0], [1, 2, 0, 1]] := by
  decide +kernel

/-- R157: a line length of 1000 is no length; 1024 is, and clears the line. -/
theorem test_line_profile :
    let p := fun (hi lo : Byte) =>
      [hi, lo, 10, 0, 78, 8, 0, 200, 8, 1, 144, 5, 20, 0, 150, 10, 2, 0, 3]
    let t := next (exec .setLineProfile (asking 7 (p 4 0) (lineAt 3000 0 .reset)))
    t.profile.lineLength = 1024 ∧ t.line.clearMark = 3000 ∧ t.profile.reportDestination = 3 ∧
    sent (next (exec .setLineProfile (asking 7 (p 3 232) .reset))) = [[7, 0, 7, 4]] := by
  decide +kernel

/-! ## Chapter 10 -/

/-- Section 10.6: line length 1024, input cell number 20,000. -/
def captureLine (mark : Nat) : State :=
  (lineAt 20000 mark .reset).setProfile { LineProfile.reset with lineLength := 1024 }

/-- Section 10.6 step 1: RELATIVE with n 64 takes 19,936 to 20,000. -/
theorem test_capture_relative :
    let t := next (exec .captureStart (asking 0x13 [0, 0, 64, 0, 0, 0, 0, 0, 0] (captureLine 0)))
    t.capture.start = 19936 ∧ t.capture.stop = 20000 ∧ t.capture.state = .ready ∧
    (sent t).map (fun p => p.take 2) = [[10, 0], [0x13, 0]] := by decide +kernel

/-- Section 10.7: with the clear mark at 19,000, start 18,995 is refused and 19,000 taken. -/
theorem test_capture_absolute :
    let p := fun (hi lo : Byte) (n1 n0 : Byte) => [1, n1, n0, 0, 0, 0, 0, hi, lo]
    sent (next (exec .captureStart (asking 0x13 (p 74 51 0 64) (captureLine 19000)))) =
      [[0x13, 0, 7, 4]] ∧
    (next (exec .captureStart (asking 0x13 (p 74 56 3 240) (captureLine 19000)))).capture.stop =
      20000 := by decide +kernel

/-- Section 10.6 step 5: at newest closed cell 20,968 the cursor 19,944 is overtaken, at 20,967 not
yet. -/
theorem test_overtaken :
    let c : Capture :=
      { state := .ready, mode := .relative, source := .request, car := none, serial := none,
        start := 19936, stop := 20000, cursor := 19944 }
    let s := fun (n : Nat) => (lineAt (n + 1) 0 (captureLine 0)).setCapture c
    (overtakingTest (s 20968)).capture.state = .overtaken ∧
    (overtakingTest (s 20967)).capture.state = .ready ∧
    sent (next (exec .captureRead (asking 0x14 [] (s 20968)))) =
      [[10, 2, 0, 255, 0, 0, 0, 0, 0, 0, 0, 77, 224, 0, 0, 0, 0, 78, 32, 0, 0, 0, 0, 77, 232, 0,
        0, 0, 0, 0, 81, 232, 0, 0], [0x14, 0, 7, 11]] := by decide +kernel

/-! ## Chapter 11 -/

/-- Section 11.7 step 10: UNKNOWN, FORMAT and DENIED. -/
theorem test_judged_by_the_executor :
    sent (next (exec .unknownRequest (asking 0x7E [] .reset))) = [[0x7E, 0, 7, 12]] ∧
    sent (next (exec .readCar (asking 2 [0, 0, 0] .reset))) = [[2, 0, 7, 5]] ∧
    sent (next (exec .readStatus (State.reset.setExecutor
      { Executor.reset with queue := [⟨[1, 0, 14], 7, false⟩] }))) = [[1, 0, 14, 6]] := by
  decide +kernel

/-- Section 11.7 step 2: with no place free nothing is taken. -/
theorem test_no_place_no_request :
    let s := asking 1 [] (foreWith 16 false)
    next (exec .readStatus s) = s := by decide +kernel

/-- Section 11.7 steps 8 and 9: with one place the STATE report is dropped and the reply placed. -/
theorem test_report_dropped_reply_placed :
    let s := opIn .standby (foreWith 15 false)
    let t := next (exec .setState (asking 5 [0] s))
    t.counters.reportDrops = 1 ∧ t.ports.foreQueue.length = 16 ∧ t.ports.foreSeq = 1 ∧
    t.executor.opState = .safe := by decide +kernel

/-- Sections 12.2 and 12.3: the positions of the bank in Route Open and Read Bank. -/
theorem test_route_open_and_read :
    let t := next (exec .routeOpen (asking 0x0F [1, 1, 19, 9, 96, 1, 5, 30, 6] .reset))
    t.route.b = ⟨.loading, some ⟨275, 2400, some (5, 30), 6⟩, none, []⟩ ∧
    (sent (next (exec .readBank (asking 4 [1] (t.setPorts .reset))))) =
      [[4, 0, 7, 0, 1, 1, 1, 19, 9, 96, 1, 5, 30, 6, 0, 0, 0, 0, 0, 0, 0, 0, 0]] := by
  decide +kernel

/-- R96, R97: one point with C −3 and permit FULL is loaded, and the section closed with the check
over its six bytes. -/
theorem test_points_and_close :
    let s := State.reset.setRoute ⟨⟨.loading, some ⟨1, 10, none, 0⟩, none, []⟩, .reset⟩
    let t := next (exec .routePoints (asking 0x10 [0, 0, 1, 0, 0, 255, 254, 47, 253] s))
    let k := (frameCheck [0, 0, 255, 254, 47, 253]).toNat
    t.route.a.points = [⟨0, -2, -3, .full⟩] ∧
    (next (exec .routeClose (asking 0x11 [0, BitVec.ofNat 8 (k / 256), BitVec.ofNat 8 k]
      (t.setPorts .reset)))).route.a.state = .ready := by decide +kernel

/-- R159: a held pin, and the straps read at its release. -/
theorem test_cold_reset :
    let s := next (exec .coldResetAssert (foreWith 4 false))
    s.ports.foreTx = none ∧ next (exec .commandTimerExpiry s) = s ∧
    (next (exec (.coldResetRelease 255) s)).nodeAddress = 254 ∧
    (next (exec (.coldResetRelease 9) s)).ports = .reset := by decide +kernel

/-- No row of the table gives bits, so no word spells a command, and the step is not changed. -/
theorem test_no_word_spells_a_command :
    decodeTableWord 8 0x12 = none ∧ State.reset.withFetchWord 16 0x12 = State.reset := by
  decide +kernel

/-- No command is ill-formed: the smoke test of WellFormed has nothing to refuse. -/
theorem test_every_command_well_formed (i : Instr) : i.wellFormed = true := by cases i <;> rfl

/-- R5, section 12.3: ODOMETRY from node 20 with forwarding at index 2; class SENSOR does not fit. -/
theorem test_set_intake_entry :
    let t := next (exec .setIntakeEntry (asking 0x0B [2, 1, 20, 0x11, 2, 1] .reset))
    t.intake[2] = ⟨some ⟨20, 0x11, .odometry, true⟩, none⟩ ∧
    sent (next (exec .setIntakeEntry (asking 0x0B [2, 1, 20, 0x10, 2, 1] .reset))) =
      [[0x0B, 0, 7, 5]] := by decide +kernel

/-- R79, section 12.3: regime 0 and class 7 lead to regime 3 at FULL with attention; regime 8 is
refused. -/
theorem test_set_regime_entry :
    (next (exec .setRegimeEntry (asking 0x0C [0, 7, 3, 2, 1, 0] .reset))).entry 0 7 =
      ⟨3, .full, true, false⟩ ∧
    sent (next (exec .setRegimeEntry (asking 0x0C [8, 7, 3, 2, 1, 0] .reset))) =
      [[0x0C, 0, 7, 4]] := by decide +kernel

/-- R86: released with its copy, car 0 takes regime 3 at FULL; another serial finds nothing. -/
theorem test_attention_release :
    let s := (pass false heldCars).setPorts .reset
    (next (exec .attentionRelease (asking 0x0D [0, 50, 0, 0, 0, 0, 0] s))).regime 0 =
      ⟨3, .full, none⟩ ∧
    sent (next (exec .attentionRelease (asking 0x0D [0, 51, 0, 0, 0, 0, 0] s))) =
      [[0x0D, 0, 7, 10]] := by decide +kernel

/-- R76. -/
theorem test_clear_marker_loss :
    (next (exec .clearMarkerLoss (asking 0x0E [] (setLoss true .reset)))).marker.loss = false := by
  decide +kernel

/-- R139, R140: an OFF car enabled becomes PARKED; a moving car is refused NOT_PARKED. -/
theorem test_set_car_profile :
    let p : List Byte := [3, 1, 0, 40, 0, 1, 0, 3, 32, 1, 144, 4, 0, 128]
    let t := next (exec .setCarProfile (asking 8 p .reset))
    (t.channel 3).state = .parked ∧
    t.carProfile 3 = ⟨true, 40, 0, 256, 800, 400, 4, 128⟩ ∧
    sent (next (exec .setCarProfile
      (asking 8 p (carIn 3 .hold 5 (prof 0) (opIn .active .reset))))) = [[8, 0, 7, 2]] := by
  decide +kernel

/-- R142: the reversed train; a unit id of 12 is refused. -/
theorem test_set_car_order :
    (next (exec .setCarOrder (asking 9 [11, 10, 9, 8, 7, 6, 5, 4, 3, 2, 1, 0] .reset))).cars.order
      = #v[11, 10, 9, 8, 7, 6, 5, 4, 3, 2, 1, 0] ∧
    sent (next (exec .setCarOrder (asking 9 [12, 10, 9, 8, 7, 6, 5, 4, 3, 2, 1, 0] .reset))) =
      [[9, 0, 7, 4]] := by decide +kernel

/-- Section 8.11 steps 8 and 9: Clear Car is WRONG_STATE in ACTIVE and clears in STANDBY. -/
theorem test_clear_car :
    let s := fun (x : OpState) => carIn 5 .failed 0 (prof 0) (opIn x .reset)
    sent (next (exec .clearCar (asking 10 [5] (s .active)))) = [[10, 0, 7, 1]] ∧
    ((next (exec .clearCar (asking 10 [5] (s .standby)))).channel 5).state = .parked := by
  decide +kernel

/-- R98: a READY bank becomes FREE; a FREE bank has nothing pending. -/
theorem test_route_discard :
    let s := State.reset.setRoute ⟨⟨.ready, some ⟨1, 10, none, 0⟩, none, []⟩, .reset⟩
    (next (exec .routeDiscard (asking 0x12 [0] s))).route.a.state = .free ∧
    sent (next (exec .routeDiscard (asking 0x12 [1] s))) = [[0x12, 0, 7, 10]] := by decide +kernel

/-- R165. -/
theorem test_capture_release :
    (next (exec .captureRelease (asking 0x15 []
      (State.reset.setCapture { Capture.reset with state := .done })))).capture.state = .idle := by
  decide +kernel

/-- R91, section 12.2: one marker of serial 50 at cell 20,000 with cars 0 and 1 pending. -/
theorem test_read_markers :
    sent (next (exec .readMarkers (asking 3 [1] heldCars))) =
      [[3, 0, 7, 0, 2, 1, 0, 51, 0, 8, 12, 0, 0, 0, 0, 78, 42, 0, 0, 3]] := by decide +kernel

/-- R146, section 12.2: a car PARKED on unit 5, nothing reported, nothing computed. -/
theorem test_read_car :
    sent (next (exec .readCar (asking 2 [5] (carIn 5 .parked 0 (prof 0) .reset)))) =
      [[2, 0, 7, 0, 5, 1, 0, 0, 3, 0, 0, 0, 0, 0, 0, 0, 1, 0, 0, 0, 0, 0, 0, 0, 0, 0, 0, 0, 0,
        0, 0, 0]] := by decide +kernel

/-! ## For every statement with hypotheses, a state and operands that meet them -/

theorem witness_step_runs_front_command :
    ((State.reset.setPending [.foreTransmitEnd, .readStatus]).pending =
      Instr.foreTransmitEnd :: [.readStatus]) := by decide +kernel

theorem witness_cold_reset_pin :
    ({ State.reset with pins := ⟨true, 9⟩ } : State).pins.coldReset = true ∧
    Instr.foreTransmitEnd ≠ .coldResetAssert ∧
    ∀ straps, Instr.foreTransmitEnd ≠ .coldResetRelease straps := by
  refine ⟨rfl, by decide, fun straps h => ?_⟩
  cases h

/-- A run for each of the four ways to be bad: no byte at all, 7 bytes, a byte too few, a length
field of 57 and a check of 0; and the three cases of a frame that passes through. -/
theorem witness_frames_discarded_or_forwarded :
    State.reset.pins.coldReset = false ∧ ([] : List Byte).length < 8 ∧
    ([9, 9, 9, 9, 0, 0, 0] : List Byte).length < 8 ∧
    ([9, 9, 9, 9, 1, 0, 0, 0] : List Byte).length ≠ 8 + ([9, 9, 9, 9, 1, 0, 0, 0].getD 4 0 : Byte).toNat ∧
    56 < ((List.replicate 65 57).getD 4 0 : Byte).toNat ∧
    (frameCheck ([9, 9, 9, 9, 0, 0, 0, 0].take 6)).toNat ≠ 0 ∧
    PassesThrough .reset (lane 0x31 0 []) (madeFrame 12 255 0x31 0 []) ∧
    PassesThrough .reset (lane 0x30 0 []) (madeFrame 12 255 0x30 0 []) ∧
    PassesThrough .reset (lane 0x40 0 []) (madeFrame 12 255 0x40 0 []) := by decide +kernel

/-- A report offered at one free place, and at none, with and without the reservation. -/
theorem witness_reports_offered :
    let held := fun (n : Nat) (reserved : Bool) =>
      { Ports.reset with foreQueue := List.replicate n (madeFrame 9 0 0x40 0 []), reservation := reserved }
    (held 15 false).foreFree = 1 ∧ (held 16 false).foreFree = 0 ∧ (held 14 true).foreFree = 1 ∧
    (held 15 true).foreFree = 0 := by decide +kernel

/-- The first of the slots holds the class, a later one the source too. -/
theorem witness_matching :
    matching (intakeReset.set 3 ⟨some ⟨12, 0x10, .sensorP, true⟩, none⟩) 12 0x10 =
      some (3, ⟨12, 0x10, .sensorP, true⟩) ∧
    matching (intakeReset.set 3 ⟨some ⟨12, 0x10, .sensorP, true⟩, none⟩) 12 0x11 = none := by
  decide +kernel

theorem witness_frame_round_trip :
    let f := madeFrame 9 12 0x10 3 (List.replicate 56 7)
    f.payload.length ≤ 56 ∧ f.check = frameCheck f.covered ∧ parseFrame f.bytes = some f := by
  decide +kernel

theorem witness_changed_byte :
    let run := lane 0x10 3 [1, 2]
    (parseFrame run).isSome = true ∧ 0 < run.length ∧ run.getD 0 0 ≠ 0 ∧
    run.length - 1 < run.length ∧ run.getD (run.length - 1) 0 ≠ 0 := by decide +kernel

/-- A duplicate, and a frame whose number 0 follows 255. -/
theorem witness_matched_frame :
    let e : IntakeEntry := ⟨12, 0x10, .sensorP, true⟩
    let s := State.reset.setIntake (intakeReset.set 0 ⟨some e, some 255⟩)
    s.pins.coldReset = false ∧
    Matches s (lane 0x10 255 []) (madeFrame 12 255 0x10 255 []) 0 e ∧
    s.intake[(0 : Fin 16)].memory = some 255 ∧
    Matches s (lane 0x10 0 []) (madeFrame 12 255 0x10 0 []) 0 e ∧
    s.intake[(0 : Fin 16)].memory ≠ some 0 := by decide +kernel

/-- No MANAGER entry; MANAGER entries of other sources; the one MANAGER entry of the source. -/
theorem witness_request_standing :
    let f := madeFrame 12 0 0x30 67 [1, 0, 7]
    let s := State.reset
    let t := s.setIntake (intakeReset.set 4 ⟨some ⟨2, 0x30, .manager, false⟩, some 66⟩)
    let u := s.setIntake (intakeReset.set 4 ⟨some ⟨12, 0x30, .manager, false⟩, some 66⟩)
    s.pins.coldReset = false ∧ parseFrame f.bytes = some f ∧ f.cls = clsRequest ∧
    f.dest = s.nodeAddress ∧
    (∀ (j : Fin 16), ∀ x ∈ s.intake[j].entry, x.role ≠ .manager) ∧
    (∃ (j : Fin 16), ∃ x ∈ t.intake[j].entry, x.role = .manager) ∧
    (∀ (j : Fin 16), ∀ x ∈ t.intake[j].entry, x.role = .manager → x.source ≠ f.source) ∧
    (∃ x ∈ u.intake[(4 : Fin 16)].entry, x.role = .manager ∧ x.source = f.source) ∧
    (∀ (j : Fin 16), ∀ x ∈ u.intake[j].entry, x.role = .manager ∧ x.source = f.source → j = 4) ∧
    u.intake[(4 : Fin 16)].memory ≠ some f.seq := by decide +kernel

/-- For each block a payload of a wrong length, one at the highest value that is taken and one above
it; and a status of a unit that two enabled positions share. -/
theorem witness_payloads_judged :
    let two := carIn 3 .parked 0 (prof 0) (carIn 4 .parked 0 (prof 0) .reset)
    let s := two.setCars { two.cars with order := two.cars.order.set 4 3 }
    ([0, 5, 8, 0] : List Byte).length ≠ 5 ∧ 1 < field [0, 5, 8, 0, 2] 4 1 ∧
    field [0, 5, 8, 0, 1] 4 1 = 1 ∧ field [0, 5, 8, 0, 0] 4 1 = 0 ∧
    ([] : List Byte).length ≠ 7 ∧ 1 < field [0, 0, 0, 9, 0, 5, 2] 6 1 ∧
    field [0, 0, 0, 9, 0, 5, 1] 6 1 = boolCode true ∧
    field [0, 0, 0, 9, 0, 5, 0] 6 1 = boolCode false ∧
    ([] : List Byte).length ≠ 6 ∧ 15 < field [16, 0, 0, 0, 0, 0] 0 1 ∧
    field [15, 0, 0, 0, 0, 0] 0 1 = (15 : MarkerClass).val ∧
    2 < field [11, 3, 0, 0, 0, 0] 1 1 ∧ 11 < field [12, 2, 0, 0, 0, 0] 0 1 ∧
    field [11, 2, 0, 0, 0, 0] 0 1 = (11 : UnitId).val ∧
    field [11, 2, 0, 0, 0, 0] 1 1 = unitStateCode (some .fault) ∧
    allCars.filter (fun c => s.enabled c = true ∧ s.unitOf c = 3) = [3, 4] := by decide +kernel

theorem witness_transmit_end : State.reset.pins.coldReset = false := by decide

/-- Both sides of the clamp of R27. -/
theorem witness_forward_step :
    (forwardStep 3200 0 49).clamped = false ∧ (forwardStep 3250 0 0).clamped = true ∧
    (49 < 50) := by decide +kernel

/-- The odometry states, the position certain and uncertain, and delta at -3201, -3200, -1 and 0. -/
theorem witness_odometry_frame :
    let s := trackingAt 5000 0 0 .reset
    State.reset.odo.state = .unset ∧
    (State.reset.setOdo { Odometry.reset with state := .lost }).odo.state = .lost ∧
    s.odo.state = .tracking ∧ s.odo.uncertain = false ∧
    (s.setOdo { s.odo with uncertain := true, recovery := 199 }).odo.state = .tracking ∧
    ((1799 : Distance) - s.odo.lastDistance).toInt < -3200 ∧
    ((1800 : Distance) - s.odo.lastDistance).toInt = -3200 ∧
    ((4999 : Distance) - s.odo.lastDistance).toInt = -1 ∧
    ((5000 : Distance) - s.odo.lastDistance).toInt = 0 := by decide +kernel

/-- TRACKING while the position is uncertain, at a recovery count one cell short, also where the line
stands one cell below the largest cell number, and a SLIP frame in each odometry state. -/
theorem witness_slip_and_recovery :
    let s := (trackingAt 5000 0 0 .reset).setOdo
      { (trackingAt 5000 0 0 .reset).odo with uncertain := true, recovery := 199 }
    let edge := lineAt 1099511627774 0 s
    s.odo.state = .tracking ∧ s.odo.uncertain = true ∧
    edge.odo.state = .tracking ∧ edge.odo.uncertain = true ∧ edge.line.cut 2 = 1 ∧
    (takeOdometry 5100 9 true s).odo.uncertain = true ∧
    (takeOdometry 5100 9 true .reset).odo.uncertain = true ∧
    (takeOdometry 5100 9 true
      (s.setOdo { s.odo with state := .lost, uncertain := false })).odo.uncertain = true := by
  decide +kernel

/-- The odometry timeout running in TRACKING and stopped; each state of a channel with a running
timeout, and a stopped one. -/
theorem witness_supervision_timeouts :
    (trackingAt 5000 0 0 .reset).pins.coldReset = false ∧
    (trackingAt 5000 0 0 .reset).odo.state = .tracking ∧
    (trackingAt 5000 0 0 .reset).odo.timeout.isSome = true ∧
    State.reset.odo.state ≠ .tracking ∧
    State.reset.pins.coldReset = false ∧ (State.reset.sensor.chan .p).timeout = none ∧
    ({ rowSeven.sensor with chP := ⟨.settling, 31, none, false, some 25⟩ } : Sensor).chP.state
      ≠ .good ∧
    (rowSeven.sensor.chan .q).timeout.isSome = true ∧ (rowSeven.sensor.chan .q).state = .good := by
  decide +kernel

/-- Channel P SETTLING with n samples. -/
def settlingAt (n : Nat) : State := State.reset.setSensor
  { Sensor.reset with chP := ⟨.settling, n, some ⟨9, 5⟩, false, some 25⟩ }

/-- An ABSENT channel, one with 30 and one with 31 samples, and a GOOD one whose sample meets, and does
not meet, the other channel's latest. -/
theorem witness_sensor_frame :
    (State.reset.sensor.chan .p).state = .absent ∧
    ((settlingAt 30).sensor.chan .p).state = .settling ∧ 30 + 1 < 32 ∧
    ((settlingAt 31).sensor.chan .p).settle + 1 = 32 ∧
    (rowSeven.sensor.chan .q).state = .good ∧
    (rowSeven.sensor.chan .p).latest = some ⟨103, 64⟩ ∧
    (rowSeven.sensor.chan .p).paired = false ∧ (103 : Word16) ≠ 104 := by decide +kernel

theorem witness_sensor_frame_sound :
    ∀ s ∈ [State.reset, settlingAt 30, settlingAt 31, rowSeven], SensorSound s := by decide +kernel

/-- Windows at the threshold 200 and one above it, and sixteen of them. -/
theorem witness_full_windows :
    let dual : Sensor := { rowSeven.sensor with pairState := .dual }
    let apart : Sensor := { rowSeven.sensor with pairState := .disagree }
    rowSeven.sensor.pairState = .singleP ∧ dual.pairState = .dual ∧ dual.disagreeRun = 0 ∧
    apart.pairState = .disagree ∧ apart.agreeRun = 0 ∧
    (List.replicate 16 200).length = 16 ∧ (∀ d ∈ List.replicate 16 200, d ≤ 200) := by
  decide +kernel

/-- An open cell with samples and one without; an advance of one cell and of a whole line. -/
theorem witness_line_advances :
    let l : Line :=
      { inputCell := 2004, clearMark := 0, acc := ⟨121, 2, some .dual⟩, heldRun := 3,
        store := [(2003, ⟨2003, 53, .held, 0⟩)] }
    l.store.wf ∧ l.clearMark ≤ l.inputCell ∧ (1 ≤ 1 ∧ 1 ≤ 4096) ∧ (1 ≤ 4096 ∧ 4096 ≤ 4096) ∧
    1 ≤ l.acc.count ∧ ({ l with acc := .empty } : Line).acc.count = 0 ∧
    l.readable 4096 2003 = true ∧ l.newest + 1 - 4096 < 2003 := by decide +kernel

/-- A cell below the clear mark, one above the newest closed cell and one a line length below it; and a
readable cell at each of the three limits. -/
theorem witness_tap_limits :
    let l : Line := { inputCell := 2004, clearMark := 1000, acc := .empty, heldRun := 0, store := [] }
    let m : Line := { l with clearMark := 0 }
    ((999 : Int) < l.clearMark ∧ (l.inputCell : Int) ≤ 2004 ∧ 979 ≤ (l.inputCell : Int) - 1 - 1024) ∧
    l.readable 1024 999 = false ∧ l.readable 1024 1000 = true ∧ l.readable 1024 2003 = true ∧
    l.readable 1024 2004 = false ∧ m.readable 1024 979 = false ∧ m.readable 1024 980 = true := by
  decide +kernel

/-- An advance of one cell below the largest cell number, and one that is cut to nothing there. -/
theorem witness_line_is_answered :
    min 64 (1099511627775 - (lineAt 1099511627774 0 .reset).line.inputCell) = 1 ∧
    min 64 (1099511627775 - (lineAt 1099511627775 0 .reset).line.inputCell) = 0 ∧
    (pass false heldCars).marker.attention.isSome = true ∧
    State.reset.marker.attention = none := by decide +kernel

/-- The conversions; a cell below the tail; 30 TRACK markers; and a cell at the tail, with no bank READY,
with both banks anchored at the marker, and with bank B alone anchored while bank A drains to a cell
above the marker's. -/
theorem witness_track_marker :
    let s := trackingAt 5000 0 0 (lineAt 5004 5000 .reset)
    let t := s.setMarker { s.marker with queue := [⟨3, .track, 1, 0, 5003, none, [0]⟩] }
    let u := s.setMarker
      { s.marker with queue := List.replicate 30 ⟨3, .track, 1, 0, 5003, none, [0]⟩ }
    convertStamp 1799 s = .stale ∧ convertStamp 5000 .reset = .noPosition ∧
    convertStamp 5000 t = .cell 5003 ∧ convertStamp 4950 t = .cell 5002 ∧
    (∀ tail ∈ t.marker.queue.getLast?.map (·.cell), 5002 < tail) ∧
    (∀ tail ∈ u.marker.queue.getLast?.map (·.cell), tail ≤ 5003) ∧
    30 ≤ (u.marker.queue.filter (fun m => m.kind = .track)).length ∧
    (∀ tail ∈ t.marker.queue.getLast?.map (·.cell), tail ≤ 5003) ∧
    (t.marker.queue.filter (fun m => m.kind = .track)).length < 30 ∧
    (∀ bank ∈ [Bank.a, Bank.b], (t.route.bank bank).state ≠ .ready ∧
      (t.route.bank bank).state ≠ .inUse) ∧
    (let h : SectionHeader := { sectionId := 274, length := 1000, anchor := some (1, 0), endClass := 6 }
     let ready : BankRecord := ⟨.ready, some h, none, [⟨0, 0, 0, .full⟩]⟩
     let both := t.setRoute ⟨ready, ready⟩
     let drains := t.setRoute ⟨⟨.draining, some h, some 4004, [⟨0, 0, 0, .full⟩]⟩, ready⟩
     convertStamp 5000 both = .cell 5003 ∧ convertStamp 5000 drains = .cell 5003 ∧
     (both.route.bank .a).header = some h ∧ (drains.route.bank .a).state = .draining ∧
     5003 < (drains.route.bank .a).endCell ∧ (drains.route.bank .b).state = .ready) := by
  decide +kernel

/-- After the pass over the queue of `heldCars`, car 1 does not wait and stands below marker 50. -/
theorem witness_pass_leaves_nothing_due :
    let t := pass false heldCars
    heldCars.marker.queue.Pairwise (fun x y => x.cell ≤ y.cell) ∧ t.enabled 1 = true ∧
    (t.regime 1).waiting = none ∧
    ⟨50, .track, 7, 12, 20000, none, [0, 1]⟩ ∈ t.marker.queue ∧ (1 : Car) ∈ [(0 : Car), 1] := by
  decide +kernel

/-- In `heldCars` car 0 meets attention at the oldest marker that holds it and car 1 stands below it; at
authority from an entry without attention car 0 applies; and of two cars that wait on one marker the
arbiter serves the lower. -/
theorem witness_pass_applies_markers :
    let plain := entryAt 0 7 ⟨3, .full, false, true⟩ heldCars
    let m : Marker := ⟨50, .track, 7, 12, 20000, none, [0, 1]⟩
    let both := setRegime 1 ⟨0, .full, some 50⟩ (setRegime 0 ⟨0, .full, some 50⟩ heldCars)
    heldCars.enabled 2 = false ∧ heldCars.enabled 0 = true ∧ (heldCars.regime 0).waiting = none ∧
    (heldCars.marker.queue.map (·.serial)).Nodup ∧
    heldCars.marker.queue.find? (fun x => x.pending.contains 0) = some m ∧
    (20000 ≤ heldCars.tapCell 0 ∧ heldCars.tapCell 1 < 20000) ∧
    (heldCars.entry 0 7).attention = true ∧ (plain.entry 0 7).attention = false ∧
    (plain.entry 0 7).capture = true ∧ plain.capture.state = .idle ∧
    (plain.setCapture { Capture.reset with state := .overtaken }).capture.state = .overtaken ∧
    (allCars.foldl (fun t c => passCar false c t) both).marker.attention = none ∧
    (allCars.foldl (fun t c => passCar false c t) both).marker.queue.head? = some m ∧
    ((allCars.foldl (fun t c => passCar false c t) both).regime 0).waiting = some 50 := by
  decide +kernel

theorem witness_attention_timer :
    State.reset.pins.coldReset = false ∧ State.reset.marker.attention = none ∧
    (pass false heldCars).pins.coldReset = false ∧
    (pass false heldCars).marker.attention = some ⟨50, 0, 7, 12, 0, ⟨3, .full, true, false⟩, 400⟩ := by
  decide +kernel

/-- A bank's section alone around its first and its last cell, no bank's one cell to either side, and the
other bank's at the cell where the first one's ends. -/
theorem witness_lookup_bank :
    let h : SectionHeader := { sectionId := 274, length := 500, anchor := none, endClass := 6 }
    let r : Route := ⟨⟨.inUse, some h, some 600, []⟩, ⟨.draining, some h, some 100, []⟩⟩
    let holds := fun (bank : Bank) (x : Int) =>
      let b := r.bank bank
      (b.state = .inUse ∨ b.state = .draining) ∧ ((b.startCell.getD 0 : Nat) : Int) ≤ x ∧
        x < ((b.startCell.getD 0 : Nat) : Int) + (b.header.map (·.length)).getD 0
    (∀ x ∈ [(100 : Int), 599], holds .b x ∧ ¬holds (Bank.other .b) x) ∧
    (∀ x ∈ [(600 : Int), 1099], holds .a x ∧ ¬holds (Bank.other .a) x) ∧
    ∀ x ∈ [(-1 : Int), 99, 1100], ∀ bank ∈ [Bank.a, Bank.b], ¬holds bank x := by decide +kernel

/-- Past the last point, at a point and between two points. -/
theorem witness_lookup :
    let p : Point := ⟨400, 2281, 51, .full⟩
    let q : Point := ⟨440, 4562, 102, .full⟩
    rising ([p] ++ [q]) = true ∧ q.offset ≤ 440 ∧ rising ([] ++ p :: q :: []) = true ∧
    p.offset ≤ 400 ∧ 400 < q.offset ∧ p.offset ≤ 439 ∧ 439 < q.offset := by decide +kernel

/-- A section that ends exactly at the newest closed cell, the other bank READY and FREE; and a chained
section of 50 cells that ends in the same event, and one cell too early for that. -/
theorem witness_section_end :
    let h : SectionHeader := { sectionId := 274, length := 1000, anchor := none, endClass := 6 }
    let a : BankRecord := ⟨.inUse, some h, some 9800, [⟨0, 0, 0, .full⟩]⟩
    let s := fun (b : BankRecord) => (lineAt 10801 0 .reset).setRoute ⟨a, b⟩
    let ready : BankRecord := ⟨.ready, some h, none, [⟨0, 0, 0, .full⟩]⟩
    (s ready).endDue = some .a ∧ ((s ready).route.bank (Bank.other .a)).state = .ready ∧
    (s .reset).endDue = some .a ∧ ((s .reset).route.bank (Bank.other .a)).state ≠ .ready ∧
    (let brief := lineAt 10851 0 ((s ready).setRoute ⟨a, { ready with header := some { h with length := 50 } }⟩)
     let once := lineAt 10850 0 ((s ready).setRoute ⟨a, { ready with header := some { h with length := 50 } }⟩)
     brief.endDue = some .a ∧ (endTest brief).endDue = none ∧
     ((endTest brief).route.bank .b).state = .free ∧
     ((endTest once).route.bank .b).state = .inUse) := by
  decide +kernel

/-- One bank IN_USE alone, its end cell at, and one above, the newest closed cell; and no bank IN_USE. -/
theorem witness_end_due :
    let h : SectionHeader := { sectionId := 274, length := 1000, anchor := none, endClass := 6 }
    let s := fun (st : BankState) (n : Nat) =>
      (lineAt n 0 .reset).setRoute ⟨.reset, ⟨st, some h, some 9800, []⟩⟩
    ((s .inUse 10801).route.bank .b).state = .inUse ∧
    ((s .inUse 10801).route.bank (Bank.other .b)).state ≠ .inUse ∧
    9800 + 1000 < (s .inUse 10801).line.inputCell ∧ ¬9800 + 1000 < (s .inUse 10800).line.inputCell ∧
    (s .inUse 10801).endDue = some .b ∧ (s .inUse 10800).endDue = none ∧
    ∀ bank ∈ [Bank.a, Bank.b], ((s .draining 10801).route.bank bank).state ≠ .inUse := by
  decide +kernel

theorem witness_nearest : 0 < 2 ∧ 2 * (((2 : Nat) : Int) * 67 - 134).natAbs < 2 := by decide

/-- A rate step that reaches and one that does not; and an authority of NONE. -/
theorem witness_computation :
    let s := carIn 1 .following 300 (prof 0) (opIn .active .reset)
    let t := carIn 1 .following 3 (prof 0) (opIn .active .reset)
    (256 ≤ 256) ∧ (computation s 1).authority = .none ∧
    (s.carProfile 1).rateStep < ((computation s 1).clamped - (s.channel 1).thetaPrev).natAbs ∧
    ((computation t 1).clamped - (t.channel 1).thetaPrev).natAbs ≤ (t.carProfile 1).rateStep := by
  decide +kernel

/-- A frame that waits, and none, at a free and at a busy transmitter; SAFE and STANDBY; a CENTRING car
that reaches 0; and a car held for its unit's PARK entry. -/
theorem witness_command_timer :
    let w : CommandFrame := { seq := 3, commandSeq := 40, entries := Vector.replicate 12 .parked }
    let s := State.reset.setPorts { Ports.reset with waiting := some w }
    s.pins.coldReset = false ∧ s.ports.waiting.isSome = true ∧
    State.reset.pins.coldReset = false ∧ State.reset.ports.waiting = none ∧
    State.reset.ports.aftTx = none ∧ State.reset.executor.opState = .safe ∧
    (let busy := State.reset.setPorts { Ports.reset with aftTx := some (madeFrame 9 0 0x40 0 []) }
     busy.ports.waiting = none ∧ busy.ports.aftTx ≠ none) ∧
    (let centres := carIn 3 .centring 4 (prof 0) (opIn .standby .reset)
     (computation centres 3).angle = 0 ∧ centres.enabled 3 = true) ∧
    (let held := carIn 3 .parked 0 (prof 0) (opIn .active .reset)
     let held := setChannel 3 { held.channel 3 with parkHeld := true } held
     held.enabled 3 = true ∧
     ((next (exec .commandTimerExpiry held)).channel 3).state = .following) := by
  decide +kernel

theorem witness_ageing :
    (State.reset.channel 0).state = .off ∧ (busyUnit.channel 5).state ≠ .off := by decide +kernel

/-- A state that meets the conditions, with a car FOLLOWING at the angle its unit was handed. -/
def soundState : State :=
  let s := carIn 5 .following 300 (prof 0) (opIn .active .reset)
  s.setCars { s.cars with lastHanded := s.cars.lastHanded.set 5 ⟨.tilt, 300⟩ }

theorem witness_command_angles :
    soundState.pins.coldReset = false ∧ soundState.ports.waiting = none ∧
    soundState.enabled 5 = true ∧
    (next (exec .commandTimerExpiry soundState)).cars.lastHanded[soundState.unitOf 5].mode ≠ .park ∧
    State.reset.executor.opState = .safe := by
  decide +kernel

theorem witness_command_angles_sound :
    ∀ s ∈ [State.reset, soundState], CarsSound s ∧ HandedSound s := by decide +kernel

theorem witness_reads :
    Serves (asking 1 [] .reset) .readStatus (req 1 []) [] ∧
    Serves (asking 2 [12] .reset) .readCar (req 2 [12]) [] ∧ 11 < field [12] 0 1 ∧
    Serves (asking 2 [11] .reset) .readCar (req 2 [11]) [] ∧ field [11] 0 1 = (11 : Car).val ∧
    Serves (asking 3 [32] .reset) .readMarkers (req 3 [32]) [] ∧ 31 < field [32] 0 1 ∧
    Serves (asking 3 [31] .reset) .readMarkers (req 3 [31]) [] ∧ field [31] 0 1 ≤ 31 ∧
    Serves (asking 4 [2] .reset) .readBank (req 4 [2]) [] ∧ 1 < field [2] 0 1 ∧
    Serves (asking 4 [1] .reset) .readBank (req 4 [1]) [] ∧ field [1] 0 1 = Bank.b.code := by
  decide +kernel

/-- A car that may leave SAFE. -/
def readyToLeave : State :=
  let s := carIn 2 .parked 0 (prof 400) intakeExample
  setChannel 2 { s.channel 2 with age := 4, lastState := some .ready } s

/-- Each target from each state it can be asked in, the check passing and failing. -/
theorem witness_set_state :
    let w : CommandFrame := { seq := 3, commandSeq := 40, entries := Vector.replicate 12 .parked }
    let active := opIn .active .reset
    let waits := active.setPorts { Ports.reset with waiting := some w }
    Serves (asking 5 [3] .reset) .setState (req 5 [3]) [] ∧ 2 < field [3] 0 1 ∧
    Serves (asking 5 [0] .reset) .setState (req 5 [0]) [] ∧
    field [0] 0 1 = State.reset.executor.opState.code ∧
    Serves (asking 5 [0] active) .setState (req 5 [0]) [] ∧ active.executor.opState ≠ .safe ∧
    Serves (asking 5 [0] waits) .setState (req 5 [0]) [] ∧ waits.ports.waiting = some w ∧
    Serves (asking 5 [1] active) .setState (req 5 [1]) [] ∧
    Serves (asking 5 [2] (opIn .standby .reset)) .setState (req 5 [2]) [] ∧
    Serves (asking 5 [2] readyToLeave) .setState (req 5 [2]) [] ∧
    leaveCheck (asking 5 [2] readyToLeave) = none ∧
    Serves (asking 5 [1] readyToLeave) .setState (req 5 [1]) [] ∧
    leaveCheck (asking 5 [1] readyToLeave) = none ∧
    leaveCheck (asking 5 [2] .reset) = some ⟨1, none, 0⟩ := by decide +kernel

/-- The check passing, and each of its five items failing. -/
theorem witness_leave_check :
    let two := carIn 3 .parked 0 (prof 0) readyToLeave
    leaveCheck readyToLeave = none ∧ (leaveCheck State.reset).map (·.item) = some 1 ∧
    (leaveCheck (two.setCars { two.cars with order := two.cars.order.set 3 2 })).map (·.item) =
      some 2 ∧
    (leaveCheck (carIn 2 .parked 0 (prof 4095) readyToLeave)).map (·.item) = some 3 ∧
    (leaveCheck (readyToLeave.setIntake intakeReset)).map (·.item) = some 4 ∧
    (leaveCheck two).map (·.item) = some 5 := by decide +kernel

theorem witness_warm_restart :
    Serves (asking 6 [] busyUnit) .warmRestart (req 6 []) [] := by decide +kernel

/-- The nineteen bytes of a line profile with a line length and a command period. -/
def profileBytes (hi lo period : Byte) : List Byte :=
  [hi, lo, period, 0, 78, 8, 0, 200, 8, 1, 144, 5, 20, 0, 150, 10, 2, 0, 255]

theorem witness_set_line_profile :
    Serves (asking 7 (profileBytes 16 0 10) (opIn .active .reset)) .setLineProfile
      (req 7 (profileBytes 16 0 10)) [] ∧
    Serves (asking 7 (profileBytes 16 0 6) .reset) .setLineProfile
      (req 7 (profileBytes 16 0 6)) [] ∧
    (readLineProfile (profileBytes 16 0 6)).inRange = false ∧
    Serves (asking 7 (profileBytes 16 0 20) .reset) .setLineProfile
      (req 7 (profileBytes 16 0 20)) [] ∧
    (readLineProfile (profileBytes 16 0 20)).inRange = true ∧
    (readLineProfile (profileBytes 16 0 20)).lineLength = State.reset.profile.lineLength ∧
    Serves (asking 7 (profileBytes 8 0 20) .reset) .setLineProfile
      (req 7 (profileBytes 8 0 20)) [] ∧
    (readLineProfile (profileBytes 8 0 20)).inRange = true ∧
    (readLineProfile (profileBytes 8 0 20)).lineLength ≠ State.reset.profile.lineLength := by
  decide +kernel

/-- The fourteen bytes of a car profile: position, enabled, tap offset. -/
def carBytes (position enabled hi lo : Byte) : List Byte :=
  [position, enabled, hi, lo, 63, 15, 255, 3, 232, 3, 232, 50, 1, 0]

/-- Set Car Profile asked with a payload. -/
abbrev askCar (p : List Byte) (s : State) : Prop :=
  Serves (asking 8 p s) .setCarProfile (req 8 p) []

/-- Car 11 in a channel state and an operating state. -/
def elevenIn (st : ChanState) (x : OpState) : State := carIn 11 st 0 (prof 0) (opIn x .reset)

/-- Cars 4 and 11 on unit 4, car 4 enabled, in STANDBY. -/
def sharedUnit : State :=
  let s := carIn 4 .parked 0 (prof 0) (opIn .standby .reset)
  s.setCars { s.cars with order := s.cars.order.set 11 4 }

/-- The refusals: position 12; enabled 2; a tap offset at the line length less one, and one below it;
a moving car; and an OFF car whose unit another holds. -/
theorem witness_set_car_profile_refused :
    (askCar (carBytes 12 1 0 0) .reset ∧ 11 < field (carBytes 12 1 0 0) 0 1) ∧
    (askCar (carBytes 11 2 0 0) .reset ∧ 1 < field (carBytes 11 2 0 0) 1 1) ∧
    (askCar (carBytes 11 1 15 255) .reset ∧
      (readCarProfile (carBytes 11 1 15 255) true).inRange 4096 = false) ∧
    ((readCarProfile (carBytes 11 1 15 254) true).inRange 4096 = true ∧
      askCar (carBytes 11 1 15 254) (elevenIn .hold .active) ∧
      ((elevenIn .hold .active).channel 11).state.moving = true) ∧
    (askCar (carBytes 11 1 15 254) sharedUnit ∧ sharedUnit.executor.opState ≠ .safe ∧
      (sharedUnit.channel 11).state = .off ∧ sharedUnit.unitTaken 11 = true) := by
  decide +kernel

/-- The profiles that are written: to an OFF car, a PARKED car and a FAILED car. -/
theorem witness_set_car_profile_written :
    (askCar (carBytes 11 0 15 254) .reset ∧ (State.reset.channel 11).state = .off) ∧
    (askCar (carBytes 11 1 15 254) (elevenIn .parked .safe) ∧
      ((elevenIn .parked .safe).channel 11).state = .parked) ∧
    (askCar (carBytes 11 1 15 254) (elevenIn .failed .active) ∧
      ((elevenIn .failed .active).channel 11).state = .failed) ∧
    (askCar (carBytes 11 1 15 254) .reset ∧ State.reset.unitTaken 11 = false) ∧
    askCar (carBytes 11 0 15 254) (elevenIn .parked .safe) := by
  decide +kernel

/-- Outside SAFE; a unit id of 12; two enabled positions on one unit; and a map that is taken. -/
theorem witness_set_car_order :
    let p : List Byte := [0, 1, 2, 3, 4, 5, 6, 7, 8, 9, 10, 11]
    let q : List Byte := [0, 1, 2, 3, 4, 5, 6, 7, 8, 9, 10, 12]
    let r : List Byte := [5, 5, 2, 3, 4, 5, 6, 7, 8, 9, 10, 11]
    let two := carIn 0 .parked 0 (prof 0) (carIn 1 .parked 0 (prof 0) .reset)
    Serves (asking 9 p (opIn .active .reset)) .setCarOrder (req 9 p) [] ∧
    Serves (asking 9 q .reset) .setCarOrder (req 9 q) [] ∧ 11 < field q (11 : Car).val 1 ∧
    Serves (asking 9 r two) .setCarOrder (req 9 r) [] ∧ (∀ c : Car, field r c.val 1 ≤ 11) ∧
    two.enabled 0 = true ∧ two.enabled 1 = true ∧
    field r (0 : Car).val 1 = field r (1 : Car).val 1 ∧
    Serves (asking 9 p two) .setCarOrder (req 9 p) [] ∧
    (∀ c d : Car, two.enabled c = true → two.enabled d = true →
      field p c.val 1 = field p d.val 1 → c = d) := by decide +kernel

theorem witness_clear_car :
    let failed := carIn 11 .failed 0 (prof 0) (opIn .standby .reset)
    let w : CommandFrame := { seq := 3, commandSeq := 40, entries := Vector.replicate 12 .parked }
    Serves (asking 10 [12] .reset) .clearCar (req 10 [12]) [] ∧ 11 < field [12] 0 1 ∧
    Serves (asking 10 [11] (opIn .active .reset)) .clearCar (req 10 [11]) [] ∧
    Serves (asking 10 [11] .reset) .clearCar (req 10 [11]) [] ∧
    (State.reset.channel 11).state ≠ .failed ∧
    Serves (asking 10 [11] failed) .clearCar (req 10 [11]) [] ∧
    failed.executor.opState ≠ .active ∧ (failed.channel 11).state = .failed ∧
    failed.ports.waiting = none ∧
    Serves (asking 10 [11] (failed.setPorts { Ports.reset with waiting := some w })) .clearCar
      (req 10 [11]) [] := by decide +kernel

/-- Entry present 2; outside SAFE; index 16; an index made empty; a clash and none at index 15. -/
theorem witness_set_intake_entry :
    let ask := fun (p : List Byte) (s : State) => Serves (asking 0x0B p s) .setIntakeEntry (req 0x0B p) []
    ask [15, 2, 0, 0, 0, 0] .reset ∧ ask [15, 0, 0, 0, 0, 0] (opIn .standby .reset) ∧
    ask [16, 0, 0, 0, 0, 0] .reset ∧ 15 < field [16, 0, 0, 0, 0, 0] 0 1 ∧
    ask [15, 0, 0, 0, 0, 0] .reset ∧ ask [15, 1, 12, 0x30, 5, 0] .reset ∧
    ask [15, 1, 14, 0x10, 0, 0] intakeExample ∧
    entryClash intakeExample.intake 15 ⟨14, 0x10, .sensorP, false⟩ = true ∧
    entryClash State.reset.intake 15 ⟨12, 0x30, .manager, false⟩ = false := by decide +kernel

theorem witness_marker_tables :
    let ask := fun (p : List Byte) => Serves (asking 0x0C p .reset) .setRegimeEntry (req 0x0C p) []
    Serves (asking 0x0E [] .reset) .clearMarkerLoss (req 0x0E []) [] ∧
    ask [7, 15, 7, 3, 1, 1] ∧ ask [8, 15, 7, 2, 1, 1] ∧ ask [7, 16, 7, 2, 1, 1] ∧
    ask [7, 15, 8, 2, 1, 1] ∧ ask [7, 15, 7, 2, 1, 1] ∧
    field [7, 15, 7, 2, 1, 1] 1 1 = (15 : MarkerClass).val := by decide +kernel

/-- A replacement present of 2; a next regime of 8; a serial timed out and one never seen; and the
serial that is held, released with the copy and with a replacement. -/
theorem witness_attention_release :
    let ask := fun (p : List Byte) (s : State) => Serves (asking 0x0D p s) .attentionRelease (req 0x0D p) []
    let s := (pass false heldCars).setPorts .reset
    let late := State.reset.setMarker { MarkerUnit.reset with lastTimedOut := some 50 }
    ask [0, 50, 2, 0, 0, 0, 0] s ∧ ask [0, 50, 1, 8, 0, 0, 0] s ∧
    ask [0, 50, 0, 0, 0, 0, 0] late ∧ late.marker.attention = none ∧
    ask [0, 50, 0, 0, 0, 0, 0] .reset ∧ ask [0, 50, 0, 0, 0, 0, 0] s ∧
    s.marker.attention = some ⟨50, 0, 7, 12, 0, ⟨3, .full, true, false⟩, 400⟩ ∧
    field [0, 50, 0, 0, 0, 0, 0] 0 2 = 50 ∧ ask [0, 50, 1, 7, 2, 1, 1] s := by decide +kernel

/-- A bank that can be opened or closed, in each bank state. -/
def bankIn (st : BankState) (ps : List Point) : State :=
  State.reset.setRoute ⟨.reset, ⟨st, some ⟨1, 10, none, 0⟩, some 100, ps⟩⟩

theorem witness_route_open :
    let ask := fun (p : List Byte) (s : State) => Serves (asking 0x0F p s) .routeOpen (req 0x0F p) []
    ask [2, 0, 1, 0, 1, 0, 0, 0, 0] .reset ∧ ask [1, 0, 1, 0, 1, 0, 0, 0, 0] (bankIn .ready []) ∧
    ask [1, 0, 1, 0, 1, 2, 0, 0, 0] .reset ∧ ask [1, 0, 1, 0, 0, 0, 0, 0, 0] .reset ∧
    ask [1, 0, 1, 0, 1, 0, 0, 0, 16] .reset ∧ ask [1, 0, 1, 0, 1, 1, 16, 0, 15] .reset ∧
    ask [1, 0, 1, 0, 1, 0, 16, 0, 15] .reset ∧ ask [1, 0, 1, 0, 1, 1, 15, 255, 15] .reset ∧
    field [1, 0, 1, 0, 1, 1, 15, 255, 15] 0 1 = Bank.b.code ∧
    (State.reset.route.bank .b).state = .free := by decide +kernel

/-- One point whose word is `hi`, `lo`, at a first index. -/
def pointBytes (bank first hi lo : Byte) : List Byte := [bank, first, 1, 0, 5, 1, 0, hi, lo]

theorem witness_route_points :
    let ask := fun (p : List Byte) (s : State) => Serves (asking 0x10 p s) .routePoints (req 0x10 p) []
    let full := List.replicate 255 (⟨0, 0, 0, .full⟩ : Point)
    ask (pointBytes 2 0 0 0) .reset ∧ ask (pointBytes 1 0 0 0) (bankIn .ready []) ∧
    ask (pointBytes 1 1 0 0) (bankIn .loading []) ∧
    ask ([1, 255, 2] ++ List.replicate 12 0) (bankIn .loading full) ∧
    ask (pointBytes 1 255 0 0) (bankIn .loading full) ∧
    field (pointBytes 1 255 0 0) 1 1 + field (pointBytes 1 255 0 0) 2 1 = 256 ∧
    ask (pointBytes 1 0 48 0) (bankIn .loading []) ∧
    ask (pointBytes 1 0 43 255) (bankIn .loading []) ∧
    ask (pointBytes 1 0 44 0) (bankIn .loading []) ∧
    ask (pointBytes 1 0 35 255) (bankIn .loading []) := by decide +kernel

theorem witness_route_close :
    let ask := fun (p : List Byte) (s : State) => Serves (asking 0x11 p s) .routeClose (req 0x11 p) []
    let k := (frameCheck [0, 0, 0, 0, 32, 0]).toNat
    let right : List Byte := [1, BitVec.ofNat 8 (k / 256), BitVec.ofNat 8 k]
    let one := bankIn .loading [⟨0, 0, 0, .full⟩]
    ask [2, 0, 0] .reset ∧ ask [1, 0, 0] .reset ∧ ask [1, 0, 0] (bankIn .loading []) ∧
    ask [1, 0, 0] (bankIn .loading [⟨0, 0, 0, .full⟩, ⟨10, 0, 0, .full⟩]) ∧
    ask [1, 0, 0] one ∧ (frameCheck ((one.route.bank .b).points.flatMap Point.bytes)).toNat ≠
      field [1, 0, 0] 1 2 ∧
    ask right one ∧ (frameCheck ((one.route.bank .b).points.flatMap Point.bytes)).toNat =
      field right 1 2 := by decide +kernel

theorem witness_route_discard :
    let ask := fun (p : List Byte) (s : State) => Serves (asking 0x12 p s) .routeDiscard (req 0x12 p) []
    ask [2] .reset ∧ ask [1] .reset ∧ ask [1] (bankIn .loading []) ∧ ask [1] (bankIn .ready []) ∧
    ask [1] (bankIn .inUse []) ∧ ask [1] (bankIn .draining []) ∧
    (State.reset.route.bank .b).state = .free := by decide +kernel

/-- An undefined mode; a capture READY; lengths 8 and 1,024; RELATIVE with 1,008 of 1,024; ABSOLUTE
from the lowest start cell allowed, and from one below it. -/
theorem witness_capture_start :
    let ask := fun (p : List Byte) (s : State) => Serves (asking 0x13 p s) .captureStart (req 0x13 p) []
    let busy := (captureLine 0).setCapture { Capture.reset with state := .ready }
    let at6 := fun (mode n1 n0 hi lo : Byte) => [mode, n1, n0, 0, 0, 0, 0, hi, lo]
    ask (at6 2 0 64 0 0) (captureLine 0) ∧ ask (at6 0 0 64 0 0) busy ∧
    ask (at6 0 0 8 0 0) (captureLine 0) ∧ ask (at6 0 4 0 0 0) (captureLine 0) ∧
    ask (at6 0 3 240 0 0) (captureLine 0) ∧
    ask (at6 1 0 16 74 47) (captureLine 0) ∧ (captureLine 0).startFits 18991 = false ∧
    fieldS (at6 1 0 16 74 47) 3 6 = 18991 ∧
    ask (at6 1 0 16 74 48) (captureLine 0) ∧ (captureLine 0).startFits 18992 = true ∧
    fieldS (at6 1 0 16 74 48) 3 6 = 18992 := by decide +kernel

theorem witness_capture_read :
    let c := fun (st : CapState) => (captureLine 0).setCapture
      { Capture.reset with state := st, start := 18976, stop := 19500, cursor := 18976 }
    let ask := fun (s : State) => Serves (asking 0x14 [] s) .captureRead (req 0x14 []) []
    let old := (c .ready).setCapture { (c .ready).capture with cursor := 18975, start := 18975 }
    ask (c .idle) ∧ ask (c .done) ∧ ask (c .overtaken) ∧ ask (c .ready) ∧ ask old ∧
    ((c .ready).line.inputCell : Int) - 1 - (c .ready).profile.lineLength + 1 ≤
      (c .ready).capture.cursor ∧
    old.capture.cursor < (old.line.inputCell : Int) - 1 - old.profile.lineLength + 1 := by
  decide +kernel

theorem witness_capture_release :
    Serves (asking 0x15 [] .reset) .captureRelease (req 0x15 []) [] := by decide +kernel

/-- A request denied, one of a wrong length, one too short, one unknown; and a head that is another
request's. -/
theorem witness_requests_refused :
    let s := fun (r : Request) => State.reset.setExecutor { Executor.reset with queue := [r] }
    Heads (s ⟨[1, 0, 7], 5, false⟩) ⟨[1, 0, 7], 5, false⟩ [] ∧
    (⟨[1, 0, 7], 5, false⟩ : Request).name = some .readStatus ∧
    Heads (s (req 1 [0])) (req 1 [0]) [] ∧ lengthFits .readStatus (req 1 [0]).payload = false ∧
    Heads (s ⟨[1, 0], 5, true⟩) ⟨[1, 0], 5, true⟩ [] ∧ (⟨[1, 0], 5, true⟩ : Request).name = none ∧
    Heads (s (req 0x16 [])) (req 0x16 []) [] ∧ (req 0x16 []).name = none ∧
    (req 1 []).name ≠ some .readCar := by decide +kernel

/-- A state that meets the conditions, with a car FOLLOWING, and the command timer about to expire. -/
def expiring : State := soundState.setPending [.commandTimerExpiry]

/-- The conditions on the line, the ports and the loaded tables hold in it. -/
theorem expiring_ports_and_tables :
    (LineSound expiring ∧ PortsSound expiring) ∧ IntakeSound expiring ∧ ProfilesSound expiring := by
  decide +kernel

/-- So do those on the odometry record and the capture. -/
theorem expiring_odometry_and_capture : OdometrySound expiring ∧ CaptureSound expiring := by
  decide +kernel

/-- So does that on the sensor monitor. -/
theorem expiring_sensor : SensorSound expiring := by decide +kernel

/-- So do those on the marker queue and the banks. -/
theorem expiring_queue_and_banks : QueueSound expiring ∧ BanksSound expiring := by decide +kernel

/-- So does that on the serials. -/
theorem expiring_serials : SerialsSound expiring := by decide +kernel

/-- So do those on the cars and the units. -/
theorem expiring_cars : CarsSound expiring ∧ HandedSound expiring := by decide +kernel

/-- The conditions that the invariants assume hold together in a state from which a step answers a next
state. -/
theorem witness_conditions :
    ((LineSound expiring ∧ PortsSound expiring) ∧ IntakeSound expiring ∧ ProfilesSound expiring) ∧
    (OdometrySound expiring ∧ CaptureSound expiring) ∧ SensorSound expiring ∧
    (QueueSound expiring ∧ BanksSound expiring) ∧ SerialsSound expiring ∧
    (CarsSound expiring ∧ HandedSound expiring) ∧
    step expiring = .next (next (step expiring)) :=
  ⟨expiring_ports_and_tables, expiring_odometry_and_capture, expiring_sensor,
    expiring_queue_and_banks, expiring_serials, expiring_cars, rfl⟩

end Sys2Proof.Tests
end

section
/-! What one step does, said once: the step as the command at its front, the request that a command
serves, and what the request executor keeps when it takes, executes and answers a request. -/

set_option Elab.async false

namespace Sys2Proof.Machine

/-! ## The command of a request -/

/-- What the block that owns a request does and answers; `none` for Warm Restart, which the request
executor performs itself (R158). -/
def RequestName.act : RequestName → Option (List Byte → State → Reply × State)
  | .readStatus => some actReadStatus
  | .readCar => some actReadCar
  | .readMarkers => some actReadMarkers
  | .readBank => some actReadBank
  | .setState => some actSetState
  | .warmRestart => none
  | .setLineProfile => some actSetLineProfile
  | .setCarProfile => some actSetCarProfile
  | .setCarOrder => some actSetCarOrder
  | .clearCar => some actClearCar
  | .setIntakeEntry => some actSetIntakeEntry
  | .setRegimeEntry => some actSetRegimeEntry
  | .attentionRelease => some actAttentionRelease
  | .clearMarkerLoss => some actClearMarkerLoss
  | .routeOpen => some actRouteOpen
  | .routePoints => some actRoutePoints
  | .routeClose => some actRouteClose
  | .routeDiscard => some actRouteDiscard
  | .captureStart => some actCaptureStart
  | .captureRead => some actCaptureRead
  | .captureRelease => some actCaptureRelease

/-- R171: what the command of a request makes of the state. -/
def RequestName.served (name : RequestName) (s : State) : State :=
  match name.act with
  | some act => serve name act s
  | none => serveWarmRestart s

theorem exec_command (name : RequestName) (s : State) :
    exec name.command s = .next (name.served s) := by
  cases name <;> rfl

/-- What an event or a command without a request makes of the state. -/
def eventOf : Instr → Option (State → State)
  | .coldResetAssert => some assertReset
  | .coldResetRelease straps => some (releaseReset straps)
  | .portFrameReceived port run => some (unlessReset (receiveRun port run))
  | .aftTransmitEnd => some (unlessReset aftEnd)
  | .foreTransmitEnd => some (unlessReset foreEnd)
  | .odometryTimeout => some (unlessReset odometryExpiry)
  | .channelTimeout channel => some (unlessReset (channelExpiry channel))
  | .commandTimerExpiry => some (unlessReset commandExpiry)
  | .attentionTimerExpiry => some (unlessReset attentionExpiry)
  | .unknownRequest => some serveUnknown
  | _ => none

theorem exec_event {c : Instr} {f : State → State} (h : eventOf c = some f) (s : State) :
    exec c s = .next (f s) := by
  cases c <;> cases h <;> rfl

theorem event_or_command (c : Instr) :
    (∃ f, eventOf c = some f) ∨ ∃ name : RequestName, c = name.command := by
  cases c with
  | readStatus => exact .inr ⟨.readStatus, rfl⟩
  | readCar => exact .inr ⟨.readCar, rfl⟩
  | readMarkers => exact .inr ⟨.readMarkers, rfl⟩
  | readBank => exact .inr ⟨.readBank, rfl⟩
  | setState => exact .inr ⟨.setState, rfl⟩
  | warmRestart => exact .inr ⟨.warmRestart, rfl⟩
  | setLineProfile => exact .inr ⟨.setLineProfile, rfl⟩
  | setCarProfile => exact .inr ⟨.setCarProfile, rfl⟩
  | setCarOrder => exact .inr ⟨.setCarOrder, rfl⟩
  | clearCar => exact .inr ⟨.clearCar, rfl⟩
  | setIntakeEntry => exact .inr ⟨.setIntakeEntry, rfl⟩
  | setRegimeEntry => exact .inr ⟨.setRegimeEntry, rfl⟩
  | attentionRelease => exact .inr ⟨.attentionRelease, rfl⟩
  | clearMarkerLoss => exact .inr ⟨.clearMarkerLoss, rfl⟩
  | routeOpen => exact .inr ⟨.routeOpen, rfl⟩
  | routePoints => exact .inr ⟨.routePoints, rfl⟩
  | routeClose => exact .inr ⟨.routeClose, rfl⟩
  | routeDiscard => exact .inr ⟨.routeDiscard, rfl⟩
  | captureStart => exact .inr ⟨.captureStart, rfl⟩
  | captureRead => exact .inr ⟨.captureRead, rfl⟩
  | captureRelease => exact .inr ⟨.captureRelease, rfl⟩
  | _ => exact .inl ⟨_, rfl⟩

/-- What every event and every request keeps, every step keeps. -/
theorem step_keeps {P : State → Prop} (hpending : ∀ s q, P s → P (s.setPending q))
    (hevent : ∀ (c : Instr) (f : State → State) s, eventOf c = some f → P s → P (f s))
    (hrequest : ∀ (name : RequestName) s, P s → P (name.served s))
    {s t : State} (h : step s = .next t) (hs : P s) : P t := by
  unfold step at h
  split at h
  · cases h; exact hs
  · rename_i c rest _
    have hp := hpending s rest hs
    rcases event_or_command c with ⟨f, hf⟩ | ⟨name, rfl⟩
    · rw [exec_event hf] at h
      cases h
      exact hevent c f _ hf hp
    · rw [exec_command] at h
      cases h
      exact hrequest name _ hp

/-- An event that keeps a condition keeps it also while the cold-reset pin is asserted (R159). -/
theorem unlessReset_keeps {P : State → Prop} {f : State → State} {s : State} (h : P (f s))
    (hs : P s) : P (unlessReset f s) := by
  unfold unlessReset
  split
  · exact hs
  · exact h

/-- R159: while the pin is not asserted an event takes place. -/
theorem unlessReset_running {f : State → State} {s : State} (h : s.pins.coldReset = false) :
    unlessReset f s = f s := by
  simp [unlessReset, h]

/-! ## What the request executor keeps -/

@[simp] theorem done_snd (s : State) : (done s).2 = s := rfl

/-- R171, R172: a served request changes nothing, or the head request is taken, executed by its block
or refused before it, and answered; `Q` is what holds between the taking and the reply. -/
theorem serve_keeps {P Q : State → Prop} {name : RequestName}
    {act : List Byte → State → Reply × State} {s : State} (hs : P s)
    (htake : ∀ r rest, Heads s r rest → Q (s.taken rest))
    (hreply : ∀ r a u, Q u → P (placeReply r a u))
    (hact : ∀ p u, Q u → Q (act p u).2) : P (serve name act s) := by
  unfold serve
  split
  · exact hs
  · rename_i r t ht
    obtain ⟨rest, hh, -, rfl⟩ := takeRequest_some ht
    have hq := htake r rest hh
    refine hreply _ _ _ ?_
    unfold judge
    split
    · exact hq
    · split
      · exact hq
      · exact hact _ _ hq

/-- R172: the same for a request that names no request of the index. -/
theorem serveUnknown_keeps {P Q : State → Prop} {s : State} (hs : P s)
    (htake : ∀ r rest, Heads s r rest → Q (s.taken rest))
    (hreply : ∀ r a u, Q u → P (placeReply r a u)) : P (serveUnknown s) := by
  unfold serveUnknown
  split
  · exact hs
  · rename_i r t ht
    obtain ⟨rest, hh, -, rfl⟩ := takeRequest_some ht
    exact hreply _ _ _ (htake r rest hh)

/-- R158: the same for Warm Restart, which places its reply first and then restarts every block. -/
theorem serveWarmRestart_keeps {P Q : State → Prop} {s : State} (hs : P s)
    (htake : ∀ r rest, Heads s r rest → Q (s.taken rest))
    (hreply : ∀ r a u, Q u → P (placeReply r a u))
    (hqueues : ∀ r u, Q u → P (restartQueues r u)) (hblocks : ∀ u, P u → P (restartBlocks u)) :
    P (serveWarmRestart s) := by
  unfold serveWarmRestart
  split
  · exact hs
  · rename_i r t ht
    obtain ⟨rest, hh, -, rfl⟩ := takeRequest_some ht
    have hq := htake r rest hh
    split
    · exact hreply _ _ _ hq
    · split
      · exact hreply _ _ _ hq
      · exact hblocks _ (hqueues _ _ hq)

/-- R171: with the taking, the reply and Warm Restart, what every owning block keeps every request
keeps. -/
theorem served_keeps {P Q : State → Prop} {s : State} (hs : P s)
    (htake : ∀ r rest, Heads s r rest → Q (s.taken rest))
    (hreply : ∀ r a u, Q u → P (placeReply r a u))
    (hqueues : ∀ r u, Q u → P (restartQueues r u)) (hblocks : ∀ u, P u → P (restartBlocks u))
    (hact : ∀ (name : RequestName) act, name.act = some act → ∀ p u, Q u → Q (act p u).2)
    (name : RequestName) : P (name.served s) := by
  unfold RequestName.served
  split
  · rename_i act h
    exact serve_keeps hs htake hreply (hact name act h)
  · exact serveWarmRestart_keeps hs htake hreply hqueues hblocks

end Sys2Proof.Machine
end

section
/-! The frames of the requests: for each owning block, once, the fields of State that a request may
change. -/

set_option Elab.async false

namespace Sys2Proof.Machine

/-! ## Set State -/

theorem setOpState_frame (x : OpState) (s : State) : SameBut [.executor] s (setOpState x s) :=
  setExecutor_frame _ _

/-- What a change of the operating state may change. -/
abbrev opStateFields : List Field := [.ports, .counters, .cars, .executor]

theorem parkForSafe_frame (c : Car) (s : State) : SameBut [.cars] s (parkForSafe c s) :=
  .ite (setChannel_frame _ _ _) (setChannel_frame _ _ _)

theorem activateCar_frame (c : Car) (s : State) : SameBut [.cars] s (activateCar c s) :=
  .ite (setChannel_frame _ _ _)
    (.ite (.ite (setChannel_frame _ _ _) (setChannel_frame _ _ _)) (.refl _ _))

theorem changeToSafe_frame (s : State) : SameBut opStateFields s (changeToSafe s) :=
  (((setOpState_frame _ _).mono (by decide)).trans
    ((forCars_frame parkForSafe_frame _).mono (by decide))).trans
      ((parkAllWaiting_frame _).mono (by decide))

theorem changeToActive_frame (s : State) : SameBut opStateFields s (changeToActive s) :=
  ((setOpState_frame _ _).mono (by decide)).trans
    ((forCars_frame activateCar_frame _).mono (by decide))

theorem changeToStandby_frame (s : State) : SameBut opStateFields s (changeToStandby s) :=
  ((setOpState_frame _ _).mono (by decide)).trans
    ((forCars_frame (fun c t => setChannel_frame c _ t) _).mono (by decide))

theorem changed_frame (before : OpState) (s : State) :
    SameBut offerFields s (changed before s).2 := offerReport_frame _ _

theorem refuseLeaving_frame (target : OpState) (f : CheckFailure) (s : State) :
    SameBut offerFields s (refuseLeaving target f s).2 := offerReport_frame _ _

theorem setTarget_frame (target : OpState) (s : State) :
    SameBut opStateFields s (setTarget target s).2 := by
  have hchanged : ∀ before t, SameBut opStateFields s t →
      SameBut opStateFields s (changed before t).2 :=
    fun before t h => h.trans ((changed_frame before t).mono (by decide))
  have hrefused : ∀ target f, SameBut opStateFields s (refuseLeaving target f s).2 :=
    fun target f => (refuseLeaving_frame target f s).mono (by decide)
  unfold setTarget
  split
  · exact .refl _ _
  · exact .refl _ _
  · exact .refl _ _
  · exact hchanged _ _ (changeToSafe_frame s)
  · exact hchanged _ _ (changeToSafe_frame s)
  · exact hchanged _ _ (changeToActive_frame s)
  · exact hchanged _ _ (changeToStandby_frame s)
  · split
    · exact hrefused _ _
    · exact hchanged _ _ ((setOpState_frame _ _).mono (by decide))
  · split
    · exact hrefused _ _
    · exact hchanged _ _ (changeToActive_frame s)

theorem actSetState_frame (p : List Byte) (s : State) :
    SameBut opStateFields s (actSetState p s).2 := by
  unfold actSetState
  split
  · exact .refl _ _
  · exact setTarget_frame _ _

/-! ## Warm Restart and Set Line Profile -/

theorem restartQueues_frame (r : Request) (s : State) : SameBut [.ports] s (restartQueues r s) :=
  setPorts_frame _ _

/-- What a warm restart may change. -/
abbrev restartFields : List Field :=
  [.ports, .counters, .route, .capture, .marker, .book, .line, .odo, .demand, .sensor, .cars,
    .executor]

theorem restartOdometry_frame (s : State) : SameBut [.odo, .demand] s (restartOdometry s) :=
  ((setOdo_frame _ _).mono (by decide)).trans (setSpeed_frame _ _)

theorem restartBlocks_frame (s : State) : SameBut restartFields s (restartBlocks s) :=
  ((((((setOpState_frame .safe s).mono (by decide)).trans
    ((forCars_frame (fun c t => setChannel_frame c _ t) _).mono (by decide))).trans
      ((restartOdometry_frame _).mono (by decide))).trans
        ((setSensor_frame _ _).mono (by decide))).trans
          ((setDemand_frame _ _).mono (by decide))).trans
            (((lineClear_frame _ _).mono (by decide)).trans ((setMarker_frame _ _).mono (by decide)))

theorem actSetLineProfile_frame (p : List Byte) (s : State) :
    SameBut (.profile :: lineFields) s (actSetLineProfile p s).2 := by
  have h : SameBut (.profile :: lineFields) s (s.setProfile (readLineProfile p)) :=
    (setProfile_frame _ _).mono (by decide)
  unfold actSetLineProfile
  split
  · exact .refl _ _
  · split
    · exact .refl _ _
    · exact .ite h (h.trans ((lineClear_frame _ _).mono (by decide)))

/-! ## Cars -/

/-- What a written car profile may change. -/
abbrev carProfileFields : List Field :=
  [.ports, .counters, .route, .capture, .marker, .book, .cars, .demand]

theorem writeCarProfile_frame (c : Car) (x : CarProfile) (s : State) :
    SameBut [.demand] s (writeCarProfile c x s) := setDemand_frame _ _

theorem enableCar_frame (c : Car) (s : State) :
    SameBut [.ports, .cars, .marker] s (enableCar c s) :=
  (((enterStill_frame _ _ _).mono (by decide)).trans ((setChannel_frame _ _ _).mono (by decide))).trans
    ((setRegime_frame _ _ _).mono (by decide))

theorem disableCar_frame (c : Car) (s : State) :
    SameBut (.cars :: answerFields) s (disableCar c s) :=
  ((enterStill_frame _ _ _).mono (by decide)).trans ((markerDisable_frame _ _).mono (by decide))

theorem applyCarProfile_frame (c : Car) (x : CarProfile) (s : State) :
    SameBut carProfileFields s (applyCarProfile c x s) := by
  have h : SameBut carProfileFields s (writeCarProfile c x s) :=
    (writeCarProfile_frame c x s).mono (by decide)
  exact .ite (.ite (h.trans ((enableCar_frame _ _).mono (by decide))) h)
    (.ite h (h.trans ((disableCar_frame _ _).mono (by decide))))

/-- R139: a profile that Set Car Profile writes lies in its ranges; else nothing changes. -/
theorem actSetCarProfile_cases (p : List Byte) (s : State) :
    (actSetCarProfile p s).2 = s ∨
    ∃ c x, x.inRange s.profile.lineLength = true ∧
      (actSetCarProfile p s).2 = applyCarProfile c x s := by
  unfold actSetCarProfile
  split
  · exact .inl rfl
  · split
    · exact .inl rfl
    · dsimp only
      split
      · exact .inl rfl
      · rename_i hrange
        split
        · exact .inl rfl
        · split
          · exact .inl rfl
          · exact .inr ⟨_, _, by simpa using hrange, rfl⟩

theorem actSetCarProfile_frame (p : List Byte) (s : State) :
    SameBut carProfileFields s (actSetCarProfile p s).2 := by
  rcases actSetCarProfile_cases p s with e | ⟨c, x, -, e⟩ <;> rw [e]
  · exact .refl _ _
  · exact applyCarProfile_frame c x s

theorem writeOrder_frame (m : Vector UnitId 12) (s : State) : SameBut [.cars] s (writeOrder m s) :=
  (forCars_frame (fun c t => .ite (.refl _ _) (setChannel_frame c _ t)) s).trans (setCars_frame _ _)

theorem actSetCarOrder_frame (p : List Byte) (s : State) :
    SameBut [.cars] s (actSetCarOrder p s).2 := by
  unfold actSetCarOrder
  split
  · exact .refl _ _
  · split
    · exact .refl _ _
    · split
      · exact .refl _ _
      · exact writeOrder_frame _ _

theorem clearCar_frame (c : Car) (s : State) : SameBut [.ports, .cars] s (clearCar c s) :=
  (enterStill_frame _ _ _).trans ((setChannel_frame _ _ _).mono (by decide))

theorem actClearCar_frame (p : List Byte) (s : State) :
    SameBut [.ports, .cars] s (actClearCar p s).2 := by
  unfold actClearCar
  split
  · exact .refl _ _
  · split
    · exact .refl _ _
    · split
      · exact .refl _ _
      · exact clearCar_frame _ _

/-! ## Tables and the marker unit -/

/-- R5: Set Intake Entry leaves the state as it is, empties an index, or writes an entry that does not
clash with the others. -/
theorem judgeIntake_cases (index : Nat) (e : Option IntakeEntry) (s : State) :
    (judgeIntake index e s).2 = s ∨
    (∃ i, (judgeIntake index e s).2 = writeIntake i none s) ∨
    ∃ i x, entryClash s.intake i x = false ∧ (judgeIntake index e s).2 = writeIntake i (some x) s := by
  unfold judgeIntake
  split
  · exact .inl rfl
  · split
    · exact .inl rfl
    · rename_i i _
      split
      · exact .inr (.inl ⟨i, rfl⟩)
      · rename_i x
        split
        · exact .inl rfl
        · rename_i hclash
          exact .inr (.inr ⟨i, x, by simpa using hclash, rfl⟩)

theorem actSetIntakeEntry_cases (p : List Byte) (s : State) :
    (actSetIntakeEntry p s).2 = s ∨
    (∃ i, (actSetIntakeEntry p s).2 = writeIntake i none s) ∨
    ∃ i x, entryClash s.intake i x = false ∧
      (actSetIntakeEntry p s).2 = writeIntake i (some x) s := by
  unfold actSetIntakeEntry
  split
  · exact .inl rfl
  · exact judgeIntake_cases _ _ s
  · split
    · exact judgeIntake_cases _ _ s
    · exact .inl rfl

theorem actSetIntakeEntry_frame (p : List Byte) (s : State) :
    SameBut [.intake] s (actSetIntakeEntry p s).2 := by
  rcases actSetIntakeEntry_cases p s with e | ⟨i, e⟩ | ⟨i, x, -, e⟩ <;> rw [e]
  · exact .refl _ _
  · exact setIntake_frame _ _
  · exact setIntake_frame _ _

theorem writeEntry_frame (r : Regime) (cls : MarkerClass) (e : RegimeEntry) (s : State) :
    SameBut [.marker] s (writeEntry r cls e s) := setMarker_frame _ _

theorem actSetRegimeEntry_frame (p : List Byte) (s : State) :
    SameBut [.marker] s (actSetRegimeEntry p s).2 := by
  unfold actSetRegimeEntry
  split
  · exact .refl _ _
  · split
    · exact writeEntry_frame _ _ _ _
    · exact .refl _ _

theorem releaseHold_frame (hold : Attention) (e : RegimeEntry) (s : State) :
    SameBut answerFields s (releaseHold hold e s) := (endHold_frame _ _ _).trans (pass_frame _ _)

theorem release_frame (serial : Nat) (replacement : Option RegimeEntry) (s : State) :
    SameBut answerFields s (release serial replacement s).2 := by
  unfold release
  split
  · split
    · rw [done_snd]
      exact releaseHold_frame _ _ _
    · split
      · exact .refl _ _
      · exact .refl _ _
  · split
    · exact .refl _ _
    · exact .refl _ _

theorem actAttentionRelease_frame (p : List Byte) (s : State) :
    SameBut answerFields s (actAttentionRelease p s).2 := by
  unfold actAttentionRelease
  split
  · exact .refl _ _
  · exact release_frame _ _ _
  · split
    · exact .refl _ _
    · exact release_frame _ _ _

/-! ## Banks and captures -/

theorem onBank_frame {fs : List Field} (p : List Byte) (s : State) {act : Bank → Reply × State}
    (h : ∀ bank, SameBut fs s (act bank).2) : SameBut fs s (onBank p s act).2 := by
  unfold onBank
  split
  · exact .refl _ _
  · exact h _

theorem setBank_frame (bank : Bank) (x : BankRecord) (s : State) :
    SameBut [.route] s (setBank bank x s) := setRoute_frame _ _

theorem actRouteOpen_frame (p : List Byte) (s : State) :
    SameBut [.route] s (actRouteOpen p s).2 := by
  refine onBank_frame p s fun bank => ?_
  split
  · exact .refl _ _
  · split
    · exact .refl _ _
    · exact setBank_frame _ _ _

theorem actRoutePoints_frame (p : List Byte) (s : State) :
    SameBut [.route] s (actRoutePoints p s).2 := by
  refine onBank_frame p s fun bank => ?_
  dsimp only
  split
  · exact .refl _ _
  · split
    · exact .refl _ _
    · split
      · exact .refl _ _
      · split
        · exact .refl _ _
        · split
          · exact setBank_frame _ _ _
          · exact .refl _ _

theorem actRouteClose_frame (p : List Byte) (s : State) :
    SameBut [.route] s (actRouteClose p s).2 := by
  refine onBank_frame p s fun bank => ?_
  dsimp only
  split
  · exact .refl _ _
  · split
    · exact .refl _ _
    · split
      · exact .refl _ _
      · exact setBankState_frame _ _ _

theorem actRouteDiscard_frame (p : List Byte) (s : State) :
    SameBut [.route] s (actRouteDiscard p s).2 := by
  refine onBank_frame p s fun bank => ?_
  split
  · exact setBankState_frame _ _ _
  · exact setBankState_frame _ _ _
  · exact .refl _ _
  · exact .refl _ _
  · exact .refl _ _

theorem actCaptureStart_frame (p : List Byte) (s : State) :
    SameBut captureFields s (actCaptureStart p s).2 := by
  unfold actCaptureStart
  dsimp only
  split
  · exact .refl _ _
  · split
    · exact .refl _ _
    · split
      · exact .refl _ _
      · split
        · exact beginCapture_frame _ _ _ _ _ _ _
        · split
          · exact .refl _ _
          · exact beginCapture_frame _ _ _ _ _ _ _

theorem actCaptureRead_frame (p : List Byte) (s : State) :
    SameBut captureFields s (actCaptureRead p s).2 := by
  unfold actCaptureRead
  split
  · exact .refl _ _
  · exact .refl _ _
  · exact .refl _ _
  · split
    · exact overtakingTest_frame _
    · exact (setCapture_frame _ _).mono (by decide)

/-! ## Every request -/

/-- The requests that read leave the state as it is. -/
theorem actRead_snd (p : List Byte) (s : State) :
    (actReadStatus p s).2 = s ∧ (actReadCar p s).2 = s ∧ (actReadMarkers p s).2 = s ∧
      (actReadBank p s).2 = s := by
  refine ⟨rfl, ?_, ?_, ?_⟩
  · unfold actReadCar; split <;> rfl
  · unfold actReadMarkers; dsimp only; split <;> rfl
  · unfold actReadBank; split <;> rfl

/-- The fields that the owning block of a request may change. -/
def RequestName.fields : RequestName → List Field
  | .readStatus => []
  | .readCar => []
  | .readMarkers => []
  | .readBank => []
  | .setState => opStateFields
  | .warmRestart => restartFields
  | .setLineProfile => .profile :: lineFields
  | .setCarProfile => carProfileFields
  | .setCarOrder => [.cars]
  | .clearCar => [.ports, .cars]
  | .setIntakeEntry => [.intake]
  | .setRegimeEntry => [.marker]
  | .attentionRelease => answerFields
  | .clearMarkerLoss => [.marker]
  | .routeOpen => [.route]
  | .routePoints => [.route]
  | .routeClose => [.route]
  | .routeDiscard => [.route]
  | .captureStart => captureFields
  | .captureRead => captureFields
  | .captureRelease => [.capture]

theorem act_frame {name : RequestName} {act : List Byte → State → Reply × State}
    (hact : name.act = some act) (p : List Byte) (s : State) :
    SameBut name.fields s (act p s).2 := by
  obtain ⟨hstatus, hcar, hmarkers, hbank⟩ := actRead_snd p s
  cases name <;> cases hact
  case readStatus => rw [hstatus]; exact .refl _ _
  case readCar => rw [hcar]; exact .refl _ _
  case readMarkers => rw [hmarkers]; exact .refl _ _
  case readBank => rw [hbank]; exact .refl _ _
  case setState => exact actSetState_frame p s
  case setLineProfile => exact actSetLineProfile_frame p s
  case setCarProfile => exact actSetCarProfile_frame p s
  case setCarOrder => exact actSetCarOrder_frame p s
  case clearCar => exact actClearCar_frame p s
  case setIntakeEntry => exact actSetIntakeEntry_frame p s
  case setRegimeEntry => exact actSetRegimeEntry_frame p s
  case attentionRelease => exact actAttentionRelease_frame p s
  case clearMarkerLoss => exact setMarker_frame _ _
  case routeOpen => exact actRouteOpen_frame p s
  case routePoints => exact actRoutePoints_frame p s
  case routeClose => exact actRouteClose_frame p s
  case routeDiscard => exact actRouteDiscard_frame p s
  case captureStart => exact actCaptureStart_frame p s
  case captureRead => exact actCaptureRead_frame p s
  case captureRelease => exact setCapture_frame _ _

/-- R171: taking the head request changes the executor and the ports alone. -/
theorem taken_frame (s : State) (rest : List Request) :
    SameBut [.executor, .ports] s (s.taken rest) :=
  ((setExecutor_frame _ _).mono (by decide)).trans ((setPorts_frame _ _).mono (by decide))

/-! ## Pins and transmitters -/

theorem assertReset_frame (s : State) : SameBut [.pins, .ports] s (assertReset s) :=
  ((setPins_frame _ _).mono (by decide)).trans ((setPorts_frame _ _).mono (by decide))

theorem aftEnd_frame (s : State) : SameBut [.ports] s (aftEnd s) := by
  unfold aftEnd
  split
  · exact .refl _ _
  · exact setPorts_frame _ _

theorem foreEnd_frame (s : State) : SameBut [.ports] s (foreEnd s) := by
  unfold foreEnd
  split
  · exact .refl _ _
  · exact setPorts_frame _ _

end Sys2Proof.Machine
end

section
/-! The queues, the reservation and the counters (R10, R12, R14, R170, R174): each operation keeps the
queues within their places and the counters within their range, with a reply reservation held or
not. -/

set_option Elab.async false

namespace Sys2Proof.Machine

/-- R174: every counter within its range. -/
structure Counters.Fit (c : Counters) : Prop where
  foreCheck : c.foreCheck ≤ 65535
  aftCheck : c.aftCheck ≤ 65535
  seqGaps : c.seqGaps ≤ 65535
  aftDrops : c.aftDrops ≤ 65535
  foreDrops : c.foreDrops ≤ 65535
  reportDrops : c.reportDrops ≤ 65535
  requestDrops : c.requestDrops ≤ 65535
  commandSkips : c.commandSkips ≤ 65535
  capturesMissed : c.capturesMissed ≤ 65535

/-- The queues within their places, counting the place that a held reservation keeps free, and the
counters within their range. Between commands no reservation is held; within one, it may be. -/
structure QueuesFit (held : Bool) (s : State) : Prop where
  reservation : s.ports.reservation = held
  fore : s.ports.foreQueue.length + (if held then 1 else 0) ≤ 16
  aft : s.ports.aftQueue.length ≤ 8
  requests : s.executor.queue.length ≤ 4
  counters : s.counters.Fit

theorem portsSound_iff (s : State) : PortsSound s ↔ QueuesFit false s := by
  constructor
  · rintro ⟨hfore, haft, hres, hreq, hcount⟩
    refine ⟨hres, by simpa using hfore, haft, hreq, ?_⟩
    constructor <;> exact hcount _ (by simp)
  · rintro ⟨hres, hfore, haft, hreq, hcount⟩
    refine ⟨by simpa using hfore, haft, hres, hreq, ?_⟩
    obtain ⟨h1, h2, h3, h4, h5, h6, h7, h8, h9⟩ := hcount
    simp [h1, h2, h3, h4, h5, h6, h7, h8, h9]

section Fits

variable {held : Bool} {s : State}

/-- What leaves the ports, the counters and the executor alone keeps them. -/
theorem QueuesFit.of_frame {fs : List Field} {t : State} (h : QueuesFit held s)
    (k : SameBut fs s t)
    (hf : Field.ports ∉ fs ∧ Field.counters ∉ fs ∧ Field.executor ∉ fs := by decide) :
    QueuesFit held t := by
  have hports : t.ports = s.ports := k .ports hf.1
  have hcounters : t.counters = s.counters := k .counters hf.2.1
  have hexecutor : t.executor = s.executor := k .executor hf.2.2
  exact ⟨hports ▸ h.reservation, hports ▸ h.fore, hports ▸ h.aft, hexecutor ▸ h.requests,
    hcounters ▸ h.counters⟩

/-! ## Offers -/

theorem offerReport_fits (r : Report) (h : QueuesFit held s) : QueuesFit held (offerReport r s) := by
  obtain ⟨-, -, haft, -, hres, hfore⟩ := offerReport_ports r s
  have hexecutor : (offerReport r s).executor = s.executor :=
    offerReport_frame r s .executor (by decide)
  refine ⟨hres ▸ h.reservation, ?_, haft ▸ h.aft, hexecutor ▸ h.requests, ?_⟩
  · rw [h.reservation] at hfore
    exact hfore h.fore
  · rcases offerReport_cases r s with ⟨-, e⟩ | ⟨-, e⟩ <;> rw [e]
    · exact h.counters
    · exact { h.counters with reportDrops := bump_le h.counters.reportDrops }

theorem offerAft_fits (f : Frame) (h : QueuesFit held s) : QueuesFit held (offerAft f s) := by
  unfold offerAft
  split
  · rename_i hplace
    obtain ⟨-, -, -, hfore, hres, haft, -⟩ := Ports.aftAdmit_other s.nodeAddress s.ports f
    refine { h with reservation := hres ▸ h.reservation, fore := ?_, aft := ?_ }
    · simpa only [State.setPorts_ports, hfore] using h.fore
    · simp only [State.setPorts_ports]; omega
  · exact { h with counters := { h.counters with aftDrops := bump_le h.counters.aftDrops } }

theorem offerFore_fits (f : Frame) (h : QueuesFit held s) : QueuesFit held (offerFore f s) := by
  unfold offerFore
  split
  · rename_i hplace
    obtain ⟨-, -, -, haft, -, hres, hfore⟩ := Ports.foreAdmit_other s.ports f
    refine { h with reservation := hres ▸ h.reservation, fore := ?_, aft := haft ▸ h.aft }
    simp only [Ports.foreFree, h.reservation] at hplace
    simp only [State.setPorts_ports]; omega
  · exact { h with counters := { h.counters with foreDrops := bump_le h.counters.foreDrops } }

theorem forward_fits (port : Port) (f : Frame) (h : QueuesFit held s) :
    QueuesFit held (forward port f s) := by
  cases port with
  | fore => exact offerAft_fits f h
  | aft => exact offerFore_fits f h

/-! ## Cars -/

theorem parkWaiting_fits (u : UnitId) (h : QueuesFit held s) : QueuesFit held (parkWaiting u s) := by
  rcases parkWaiting_cases u s with ⟨-, e⟩ | ⟨w, -, e⟩ <;> rw [e]
  · exact h
  · exact { h with }

theorem parkAllWaiting_fits (h : QueuesFit held s) : QueuesFit held (parkAllWaiting s) := by
  unfold parkAllWaiting
  split
  · exact h
  · exact { h with }

theorem setChannel_fits (c : Car) (x : CarChannel) (h : QueuesFit held s) :
    QueuesFit held (setChannel c x s) := h.of_frame (setChannel_frame c x s)

theorem enterStill_fits (c : Car) (st : ChanState) (h : QueuesFit held s) :
    QueuesFit held (enterStill c st s) := parkWaiting_fits _ (setChannel_fits c _ h)

theorem carReport_fits (c : Car) (before : ChanState) (cause : CarCause) (h : QueuesFit held s) :
    QueuesFit held (carReport c before cause s) := offerReport_fits _ h

theorem trackingTest_fits (c : Car) (actual : Int) (h : QueuesFit held s) :
    QueuesFit held (trackingTest c actual s) := by
  unfold trackingTest
  dsimp only
  split
  · split
    · exact carReport_fits _ _ _ (enterStill_fits _ _ h)
    · exact setChannel_fits _ _ h
  · exact setChannel_fits _ _ h

theorem unitStateAct_fits (c : Car) (u : UnitState) (h : QueuesFit held s) :
    QueuesFit held (unitStateAct c u s) := by
  unfold unitStateAct
  cases u with
  | ready =>
    dsimp only
    split
    · split
      · exact carReport_fits _ _ _ (setChannel_fits _ _ h)
      · exact carReport_fits _ _ _ (setChannel_fits _ _ h)
      · exact h
    · exact h
  | busy =>
    dsimp only
    split
    · exact carReport_fits _ _ _ (setChannel_fits _ _ h)
    · exact h
  | fault =>
    dsimp only
    split
    · exact h
    · exact carReport_fits _ _ _ (enterStill_fits _ _ h)

theorem takeStatus_fits (c : Car) (u : UnitState) (actual : Int) (echo : Word16)
    (h : QueuesFit held s) : QueuesFit held (takeStatus c u actual echo s) := by
  have h1 : QueuesFit held (recordStatus c u actual echo s) := setChannel_fits _ _ h
  unfold takeStatus
  dsimp only
  split
  · split
    · exact trackingTest_fits _ _ h1
    · exact unitStateAct_fits _ _ (trackingTest_fits _ _ h1)
  · exact unitStateAct_fits _ _ h1

theorem handleUnitStatus_fits (p : List Byte) (h : QueuesFit held s) :
    QueuesFit held (handleUnitStatus p s) := by
  unfold handleUnitStatus
  split
  · exact h
  · split
    · refine forCars_keeps (fun c t ht => ?_) s h
      split
      · exact takeStatus_fits _ _ _ _ ht
      · exact ht
    · exact h

theorem ageCar_fits (c : Car) (h : QueuesFit held s) : QueuesFit held (ageCar c s) := by
  unfold ageCar
  dsimp only
  split
  · exact h
  · exact setChannel_fits _ _ h

theorem ageTest_fits (c : Car) (h : QueuesFit held s) : QueuesFit held (ageTest c s) := by
  unfold ageTest
  dsimp only
  split
  · split
    · exact carReport_fits _ _ _ (enterStill_fits _ _ h)
    · exact carReport_fits _ _ _ (setChannel_fits _ _ h)
  · split
    · exact carReport_fits _ _ _ (enterStill_fits _ _ h)
    · exact h

theorem ageAll_fits (h : QueuesFit held s) : QueuesFit held (ageAll s) :=
  forCars_keeps (fun c _ => ageTest_fits c) _ (forCars_keeps (fun c _ => ageCar_fits c) s h)

theorem handFrame_fits (h : QueuesFit held s) : QueuesFit held (handFrame s) := by
  obtain ⟨-, -, -, hfore, hres, haft, -⟩ := Ports.aftKick_other s.nodeAddress
    { s.ports with
      waiting := some { seq := s.ports.aftSeq, commandSeq := s.cars.commandSeq,
                        entries := tabulate (unitEntry s) }
      aftSeq := s.ports.aftSeq + 1 }
  refine { h with reservation := hres.trans h.reservation, fore := ?_, aft := haft.trans h.aft }
  exact (congrArg (fun q => q.length + _) hfore).trans_le h.fore

theorem parkSent_fits (c : Car) (h : QueuesFit held s) : QueuesFit held (parkSent c s) := by
  unfold parkSent
  dsimp only
  split
  · exact carReport_fits _ _ _ (setChannel_fits _ _ h)
  · exact h

theorem buildCommand_fits (h : QueuesFit held s) : QueuesFit held (buildCommand s) :=
  forCars_keeps (fun c _ => parkSent_fits c) _ (handFrame_fits h)

theorem storeComputation_fits (c : Car) (r : Computation) (h : QueuesFit held s) :
    QueuesFit held (storeComputation c r s) := by
  unfold storeComputation
  dsimp only
  have h1 := h.of_frame (setDemand_frame s { s.demand with last := s.demand.last.set c (some r) })
  split
  · exact carReport_fits _ _ _ (enterStill_fits _ _ (setChannel_fits _ _ h1))
  · exact setChannel_fits _ _ h1

theorem computeCar_fits (c : Car) (h : QueuesFit held s) : QueuesFit held (computeCar c s) := by
  unfold computeCar
  split
  · exact storeComputation_fits _ _ h
  · exact storeComputation_fits _ _ h
  · exact h

theorem skipPeriod_fits (h : QueuesFit held s) : QueuesFit held (skipPeriod s) :=
  { h with counters := { h.counters with commandSkips := bump_le h.counters.commandSkips } }

theorem commandExpiry_fits (h : QueuesFit held s) : QueuesFit held (commandExpiry s) := by
  have h1 : QueuesFit held (restartTimer s) := h.of_frame (setDemand_frame s _)
  unfold commandExpiry
  dsimp only
  split
  · exact ageAll_fits (skipPeriod_fits h1)
  · exact ageAll_fits (buildCommand_fits (forCars_keeps (fun c _ => computeCar_fits c) _ h1))

/-! ## Capture -/

theorem offerCapture_fits (e : CaptureEvent) (b : Option CapState) (h : QueuesFit held s) :
    QueuesFit held (offerCapture e b s) := offerReport_fits _ h

theorem beginCapture_fits (m : CapMode) (src : CapSource) (c : Option Car) (n : Option Nat)
    (x y : Int) (h : QueuesFit held s) : QueuesFit held (beginCapture m src c n x y s) :=
  offerCapture_fits _ _ (h.of_frame (setCapture_frame s _))

theorem regimeTrigger_fits (c : Car) (n : Nat) (h : QueuesFit held s) :
    QueuesFit held (regimeTrigger c n s) := by
  unfold regimeTrigger
  split
  · exact beginCapture_fits _ _ _ _ _ _ h
  · exact offerReport_fits _
      { h with counters := { h.counters with capturesMissed := bump_le h.counters.capturesMissed } }

theorem overtakingTest_fits (h : QueuesFit held s) : QueuesFit held (overtakingTest s) := by
  unfold overtakingTest
  split
  · exact offerCapture_fits _ _ (h.of_frame (setCapture_frame s _))
  · exact h

theorem captureClear_fits (h : QueuesFit held s) : QueuesFit held (captureClear s) := by
  unfold captureClear
  split
  · exact h
  · exact offerCapture_fits _ _ (h.of_frame (setCapture_frame s _))

/-! ## Banks -/

theorem offerRoute_fits (e : RouteEvent) (bank : Bank) (c : Option RouteCause)
    (a : Option (MarkerClass × Byte)) (h : QueuesFit held s) :
    QueuesFit held (offerRoute e bank c a s) := offerReport_fits _ h

theorem setBank_fits (bank : Bank) (x : BankRecord) (h : QueuesFit held s) :
    QueuesFit held (setBank bank x s) := h.of_frame (setRoute_frame s _)

theorem setBankState_fits (bank : Bank) (st : BankState) (h : QueuesFit held s) :
    QueuesFit held (setBankState bank st s) := setBank_fits _ _ h

theorem freePassed_fits (bank : Bank) (h : QueuesFit held s) : QueuesFit held (freePassed bank s) :=
  offerRoute_fits _ _ _ _ (setBankState_fits _ _ h)

theorem freeCleared_fits (bank : Bank) (h : QueuesFit held s) :
    QueuesFit held (freeCleared bank s) := by
  unfold freeCleared
  split
  · exact offerRoute_fits _ _ _ _ (setBankState_fits _ _ h)
  · exact h

theorem tellRoute_fits (w : Bool) (bank : Bank) (h : QueuesFit held s) :
    QueuesFit held (tellRoute w bank s) := by
  unfold tellRoute
  split
  · exact h.of_frame (setBook_frame s _)
  · exact freePassed_fits _ h

theorem startBank_fits (bank : Bank) (n : Nat) (c : RouteCause) (a : Option (MarkerClass × Byte))
    (h : QueuesFit held s) : QueuesFit held (startBank bank n c a s) :=
  offerRoute_fits _ _ _ _ (setBank_fits _ _ h)

theorem chainOrUnknown_fits (bank : Bank) (h : QueuesFit held s) :
    QueuesFit held (chainOrUnknown bank s) := by
  unfold chainOrUnknown
  split
  · exact startBank_fits _ _ _ _ h
  · exact offerRoute_fits _ _ _ _ h

/-- What every element of a list keeps, one after another. -/
theorem foldl_fits {α : Type} {f : State → α → State}
    (hf : ∀ t a, QueuesFit held t → QueuesFit held (f t a)) (l : List α) (h : QueuesFit held s) :
    QueuesFit held (l.foldl f s) := by
  induction l generalizing s with
  | nil => exact h
  | cons a l ih => exact ih (hf s a h)

theorem takeNotices_fits (h : QueuesFit held s) : QueuesFit held (takeNotices s) :=
  foldl_fits (fun _ bank => freePassed_fits bank) _ (h.of_frame (setBook_frame s _))

/-! ## The marker queue -/

theorem setQueue_fits (q : List Marker) (h : QueuesFit held s) : QueuesFit held (setQueue q s) :=
  h.of_frame (setQueue_frame q s)

theorem setRegime_fits (c : Car) (x : CarRegime) (h : QueuesFit held s) :
    QueuesFit held (setRegime c x s) := h.of_frame (setRegime_frame c x s)

theorem dropEmptied_fits (w : Bool) (h : QueuesFit held s) : QueuesFit held (dropEmptied w s) := by
  refine foldl_fits (fun t m ht => ?_) _ (setQueue_fits _ h)
  split
  · exact tellRoute_fits _ _ ht
  · exact ht

theorem applyEntry_fits (w : Bool) (c : Car) (n : Nat) (e : RegimeEntry) (h : QueuesFit held s) :
    QueuesFit held (applyEntry w c n e s) := by
  unfold applyEntry
  dsimp only
  split
  · exact regimeTrigger_fits _ _ (dropEmptied_fits _ (setQueue_fits _ (setRegime_fits _ _ h)))
  · exact dropEmptied_fits _ (setQueue_fits _ (setRegime_fits _ _ h))

theorem carPass_fits (w : Bool) (c : Car) (q : List Marker) (h : QueuesFit held s) :
    QueuesFit held (carPass w c q s) := by
  induction q generalizing s with
  | nil => exact h
  | cons m q ih =>
    unfold carPass
    split
    · split
      · dsimp only
        split
        · exact setRegime_fits _ _ h
        · exact ih (applyEntry_fits _ _ _ _ h)
      · exact h
    · exact ih h

theorem passCar_fits (w : Bool) (c : Car) (h : QueuesFit held s) : QueuesFit held (passCar w c s) := by
  unfold passCar
  split
  · exact carPass_fits _ _ _ h
  · exact h

theorem arbiter_fits (h : QueuesFit held s) : QueuesFit held (arbiter s) := by
  unfold arbiter
  split
  · exact offerReport_fits _ (h.of_frame (setMarker_frame s _))
  · exact h

theorem pass_fits (w : Bool) (h : QueuesFit held s) : QueuesFit held (pass w s) :=
  arbiter_fits (forCars_keeps (fun c _ => passCar_fits w c) s h)

theorem enqueue_fits (k : MarkerKind) (cls : MarkerClass) (param : Byte) (cell : Nat)
    (bank : Option Bank) (h : QueuesFit held s) : QueuesFit held (enqueue k cls param cell bank s) :=
  h.of_frame (enqueue_frame k cls param cell bank s)

theorem queueSectionEnd_fits (cls : MarkerClass) (param : Byte) (cell : Nat) (bank : Bank)
    (h : QueuesFit held s) : QueuesFit held (queueSectionEnd cls param cell bank s) :=
  pass_fits _ (dropEmptied_fits _ (enqueue_fits _ _ _ _ _ h))

theorem emptyRecord_fits (h : QueuesFit held s) : QueuesFit held (emptyRecord s) :=
  h.of_frame (setMarker_frame s _)

theorem withdraw_fits (h : QueuesFit held s) : QueuesFit held (withdraw s) := by
  unfold withdraw
  split
  · exact h
  · exact offerReport_fits _ (emptyRecord_fits h)

theorem stopWaiting_fits (c : Car) (h : QueuesFit held s) : QueuesFit held (stopWaiting c s) :=
  setRegime_fits _ _ h

theorem markerClear_fits (h : QueuesFit held s) : QueuesFit held (markerClear s) :=
  pass_fits _ (forCars_keeps (fun c _ => stopWaiting_fits c) _ (withdraw_fits (setQueue_fits _ h)))

theorem markerDisable_fits (c : Car) (h : QueuesFit held s) :
    QueuesFit held (markerDisable c s) := by
  unfold markerDisable
  dsimp only
  refine pass_fits _ (stopWaiting_fits _ ?_)
  have h1 := dropEmptied_fits false (setQueue_fits (s.marker.queue.map
    (fun m => { m with pending := m.pending.filter (· ≠ c) })) h)
  split
  · exact withdraw_fits h1
  · exact h1

theorem endHold_fits (hold : Attention) (e : RegimeEntry) (h : QueuesFit held s) :
    QueuesFit held (endHold hold e s) :=
  stopWaiting_fits _ (emptyRecord_fits (applyEntry_fits _ _ _ _ h))

theorem attentionExpiry_fits (h : QueuesFit held s) : QueuesFit held (attentionExpiry s) := by
  unfold attentionExpiry
  split
  · exact h
  · exact pass_fits _ (offerReport_fits _ ((endHold_fits _ _ h).of_frame (setMarker_frame _ _)))

/-! ## Section ends -/

theorem drainBank_fits (bank : Bank) (h : QueuesFit held s) : QueuesFit held (drainBank bank s) :=
  offerRoute_fits _ _ _ _ (queueSectionEnd_fits _ _ _ _ (setBankState_fits _ _ h))

theorem endChain_fits (n : Nat) (h : QueuesFit held s) : QueuesFit held (endChain n s) := by
  induction n generalizing s with
  | zero => exact h
  | succ n ih =>
    unfold endChain
    split
    · exact h
    · exact ih (chainOrUnknown_fits _ (drainBank_fits _ h))

theorem endTest_fits (h : QueuesFit held s) : QueuesFit held (endTest s) :=
  takeNotices_fits (endChain_fits 2 h)

theorem offerAnchor_fits (cls : MarkerClass) (param : Byte) (cell : Nat) (h : QueuesFit held s) :
    QueuesFit held (offerAnchor cls param cell s) := by
  unfold offerAnchor
  split
  · exact h
  · split
    · exact endTest_fits (startBank_fits _ _ _ _ h)
    · split
      · exact endTest_fits (startBank_fits _ _ _ _ h)
      · exact h

/-! ## Advances and clears -/

theorem answerAdvance_fits (t : Task) (h : QueuesFit held s) :
    QueuesFit held (answerAdvance t s) := by
  cases t with
  | marker => exact pass_fits _ h
  | route => exact endTest_fits h
  | capture => exact overtakingTest_fits h
  | report r => exact offerReport_fits r h

theorem answerClear_fits (t : Task) (h : QueuesFit held s) : QueuesFit held (answerClear t s) := by
  cases t with
  | marker => exact markerClear_fits h
  | route => exact freeCleared_fits _ (freeCleared_fits _ h)
  | capture => exact captureClear_fits h
  | report r => exact offerReport_fits r h

theorem answerAll_fits {answer : Task → State → State}
    (ha : ∀ t u, QueuesFit held u → QueuesFit held (answer t u)) (due : Nat) (own : Option Report)
    (h : QueuesFit held s) : QueuesFit held (answerAll answer due own s) := by
  obtain ⟨ts, n, e⟩ := answerAll_cases answer due own s
  rw [e]
  exact foldl_fits (fun u t => ha t u) ts (h.of_frame (setBook_frame s _))

theorem advance_fits (k : Nat) (own : State → Option Report) (h : QueuesFit held s) :
    QueuesFit held (advance k own s) := by
  unfold advance
  split
  · split
    · exact offerReport_fits _ h
    · exact h
  · exact answerAll_fits (fun t _ => answerAdvance_fits t) _ _ (h.of_frame (setLine_frame s _))

theorem lineClear_fits (own : Option Report) (h : QueuesFit held s) :
    QueuesFit held (lineClear own s) :=
  answerAll_fits (fun t _ => answerClear_fits t) _ _ (h.of_frame (setLine_frame s _))

/-! ## Odometry, markers and sensors -/

theorem slip_fits (h : QueuesFit held s) : QueuesFit held (slip s) := by
  have h1 := h.of_frame (setOdo_frame s { s.odo with uncertain := true, recovery := 0 })
  unfold slip
  dsimp only
  split
  · exact h1
  · exact offerReport_fits _ h1

theorem recover_fits (k : Nat) (h : QueuesFit held s) : QueuesFit held (recover k s) := by
  unfold recover
  split
  · split
    · exact offerReport_fits _ (h.of_frame (setOdo_frame s _))
    · exact h.of_frame (setOdo_frame s _)
  · exact h

theorem takeDelta_fits (delta : Int) (h : QueuesFit held s) : QueuesFit held (takeDelta delta s) := by
  unfold takeDelta
  split
  · exact offerReport_fits _ (h.of_frame (setOdo_frame s _))
  · split
    · exact h.of_frame (setOdo_frame s _)
    · dsimp only
      split
      · exact h.of_frame (setOdo_frame s _)
      · exact advance_fits _ _ (h.of_frame (setOdo_frame s _))

theorem setReference_fits (d : Distance) (v : Nat) (h : QueuesFit held s) :
    QueuesFit held (setReference d v s) := h.of_frame (setReference_frame d v s)

theorem takeOdometry_fits (d : Distance) (v : Nat) (slipped : Bool) (h : QueuesFit held s) :
    QueuesFit held (takeOdometry d v slipped s) := by
  unfold takeOdometry
  split
  · have h1 := setReference_fits d v h
    unfold takeUnset
    dsimp only
    split
    · exact slip_fits h1
    · exact h1
  · have h1 := takeDelta_fits (counterDiff d (setSpeed v s).odo.lastDistance)
      ((h.of_frame (setSpeed_frame v s)).of_frame
        (setOdo_frame _ { (setSpeed v s).odo with timeout := some 100, lastDistance := d }))
    unfold takeTracking
    dsimp only
    split
    · exact slip_fits h1
    · exact recover_fits _ h1
  · have h1 := setReference_fits d v (lineClear_fits
      (some (.odometry .restored .tracking s.line.inputCell none)) h)
    unfold takeLost
    dsimp only
    split
    · exact slip_fits h1
    · exact h1

theorem handleOdometry_fits (p : List Byte) (h : QueuesFit held s) :
    QueuesFit held (handleOdometry p s) := by
  unfold handleOdometry
  split
  · exact h
  · split
    · exact takeOdometry_fits _ _ _ h
    · split
      · exact takeOdometry_fits _ _ _ h
      · exact h

theorem odometryExpiry_fits (h : QueuesFit held s) : QueuesFit held (odometryExpiry s) := by
  unfold odometryExpiry
  dsimp only
  split
  · exact offerReport_fits _ ((h.of_frame (setOdo_frame s _)).of_frame (setSpeed_frame 0 _))
  · exact h

theorem queueTrack_fits (cls : MarkerClass) (param : Byte) (cell : Nat) (h : QueuesFit held s) :
    QueuesFit held (queueTrack cls param cell s) :=
  pass_fits _ (dropEmptied_fits _ (offerAnchor_fits _ _ _ (enqueue_fits _ _ _ _ _ h)))

theorem refuseMarker_fits (r : MarkerReason) (cls : MarkerClass) (param : Byte) (d : Distance)
    (x y : Option Int) (h : QueuesFit held s) : QueuesFit held (refuseMarker r cls param d x y s) :=
  offerReport_fits _ h

theorem setLoss_fits (x : Bool) (h : QueuesFit held s) : QueuesFit held (setLoss x s) :=
  h.of_frame (setMarker_frame s _)

theorem handleMarker_fits (p : List Byte) (h : QueuesFit held s) :
    QueuesFit held (handleMarker p s) := by
  unfold handleMarker
  split
  · exact h
  · split
    · exact h
    · unfold offerMarker
      split
      · exact refuseMarker_fits _ _ _ _ _ _ h
      · exact refuseMarker_fits _ _ _ _ _ _ h
      · split
        · exact refuseMarker_fits _ _ _ _ _ _ h
        · split
          · exact refuseMarker_fits _ _ _ _ _ _ (setLoss_fits _ h)
          · exact queueTrack_fits _ _ _ h

theorem reportPair_fits (b : PairState) (c : SensorCause) (ch : Option Channel) (d : Nat)
    (h : QueuesFit held s) : QueuesFit held (reportPair b c ch d s) := by
  unfold reportPair
  dsimp only
  split
  · exact h
  · exact offerReport_fits _ h

theorem setSensor_fits (m : Sensor) (h : QueuesFit held s) : QueuesFit held (s.setSensor m) :=
  h.of_frame (setSensor_frame s m)

theorem loseChannel_fits (x : Channel) (c : SensorCause) (h : QueuesFit held s) :
    QueuesFit held (loseChannel x c s) := reportPair_fits _ _ _ _ (setSensor_fits _ h)

theorem takeSample_fits (x : Channel) (v : Sample) (h : QueuesFit held s) :
    QueuesFit held (takeSample x v s) := by
  unfold takeSample
  refine setSensor_fits _ ?_
  have h1 := fun b c ch d m {t : State} (ht : QueuesFit held t) =>
    reportPair_fits b c ch d (setSensor_fits m ht)
  split
  · exact (h1 _ _ _ _ _ (h1 _ _ _ _ _ h)).of_frame (deliverSample_frame _ _ _)
  · exact h1 _ _ _ _ _ (h1 _ _ _ _ _ h)

theorem handleSensor_fits (x : Channel) (p : List Byte) (h : QueuesFit held s) :
    QueuesFit held (handleSensor x p s) := by
  unfold handleSensor
  split
  · exact h
  · split
    · exact takeSample_fits _ _ h
    · split
      · unfold takeFault
        split
        · exact h
        · exact loseChannel_fits _ _ h
      · exact h

theorem channelExpiry_fits (x : Channel) (h : QueuesFit held s) :
    QueuesFit held (channelExpiry x s) := by
  unfold channelExpiry
  split
  · exact loseChannel_fits _ _ h
  · exact h

/-! ## Received runs -/

theorem deliver_fits (role : Role) (p : List Byte) (h : QueuesFit held s) :
    QueuesFit held (deliver role p s) := by
  cases role with
  | sensorP => exact handleSensor_fits _ _ h
  | sensorQ => exact handleSensor_fits _ _ h
  | odometry => exact handleOdometry_fits _ h
  | markerReader => exact handleMarker_fits _ h
  | unitStatus => exact handleUnitStatus_fits _ h
  | manager => exact h

theorem handOver_fits (e : IntakeEntry) (port : Port) (f : Frame) (h : QueuesFit held s) :
    QueuesFit held (handOver e port f s) := by
  have hb := h.of_frame (setBook_frame s { s.book with choices := s.book.choices + 1 })
  unfold handOver
  dsimp only
  split
  · split
    · exact forward_fits _ _ (deliver_fits _ _ h)
    · split
      · exact deliver_fits _ _ (forward_fits _ _ hb)
      · exact forward_fits _ _ (deliver_fits _ _ hb)
  · exact deliver_fits _ _ h

theorem acceptSeq_fits (i : Fin 16) (n : Byte) (test : SeqTest) (h : QueuesFit held s) :
    QueuesFit held (acceptSeq i n test s) := by
  have h1 := h.of_frame (setIntake_frame s (s.intake.set i { s.intake[i] with memory := some n }))
  unfold acceptSeq
  dsimp only
  split
  · exact { h1 with counters := { h.counters with seqGaps := bump_le h.counters.seqGaps } }
  · exact h1

theorem queueRequest_fits (f : Frame) (accepted : Bool) (h : QueuesFit held s) :
    QueuesFit held (queueRequest f accepted s) := by
  unfold queueRequest
  split
  · refine { h with requests := ?_ }
    simp only [State.setExecutor_executor, List.length_append, List.length_singleton]
    omega
  · exact { h with counters := { h.counters with requestDrops := bump_le h.counters.requestDrops } }

theorem acceptRequest_fits (f : Frame) (h : QueuesFit held s) :
    QueuesFit held (acceptRequest f s) := by
  unfold acceptRequest
  split
  · split
    · exact queueRequest_fits _ _ h
    · split
      · exact h
      · exact queueRequest_fits _ _ (acceptSeq_fits _ _ _ h)
  · exact queueRequest_fits _ _ h

theorem matchedFrame_fits (i : Fin 16) (e : IntakeEntry) (port : Port) (f : Frame)
    (h : QueuesFit held s) : QueuesFit held (matchedFrame i e port f s) := by
  unfold matchedFrame
  split
  · exact h
  · exact handOver_fits _ _ _ (acceptSeq_fits _ _ _ h)

theorem intakeFrame_fits (port : Port) (f : Frame) (h : QueuesFit held s) :
    QueuesFit held (intakeFrame port f s) := by
  unfold intakeFrame
  split
  · split
    · exact acceptRequest_fits _ h
    · exact forward_fits _ _ h
  · split
    · exact forward_fits _ _ h
    · split
      · exact matchedFrame_fits _ _ _ _ h
      · exact forward_fits _ _ h

theorem countCheckError_fits (port : Port) (h : QueuesFit held s) :
    QueuesFit held (countCheckError port s) := by
  cases port with
  | fore =>
    exact { h with counters := { h.counters with foreCheck := bump_le h.counters.foreCheck } }
  | aft => exact { h with counters := { h.counters with aftCheck := bump_le h.counters.aftCheck } }

theorem receiveRun_fits (port : Port) (run : List Byte) (h : QueuesFit held s) :
    QueuesFit held (receiveRun port run s) := by
  unfold receiveRun
  split
  · exact countCheckError_fits _ h
  · exact intakeFrame_fits _ _ h

/-! ## Pins and transmitters -/

theorem assertReset_fits (h : QueuesFit held s) : QueuesFit held (assertReset s) := { h with }

theorem releaseReset_fits (straps : Byte) (s : State) : QueuesFit false (releaseReset straps s) := by
  refine ⟨rfl, ?_, ?_, ?_, ?_⟩
  · exact Nat.zero_le _
  · exact Nat.zero_le _
  · exact Nat.zero_le _
  · constructor <;> exact Nat.zero_le _

theorem aftEnd_fits (h : QueuesFit held s) : QueuesFit held (aftEnd s) := by
  unfold aftEnd
  split
  · exact h
  · obtain ⟨-, -, -, hfore, hres, haft, -⟩ :=
      Ports.aftKick_other s.nodeAddress { s.ports with aftTx := none }
    refine { h with reservation := hres.trans h.reservation, fore := ?_, aft := haft.trans h.aft }
    exact (congrArg (fun q => q.length + _) hfore).trans_le h.fore

theorem foreEnd_fits (h : QueuesFit held s) : QueuesFit held (foreEnd s) := by
  unfold foreEnd
  split
  · exact h
  · obtain ⟨-, -, -, haft, -, hres, hfore⟩ := Ports.foreKick_other { s.ports with foreTx := none }
    refine { h with reservation := hres.trans h.reservation, fore := ?_, aft := ?_ }
    · exact (Nat.add_le_add_right hfore _).trans h.fore
    · exact (congrArg List.length haft).trans_le h.aft

/-! ## Requests -/

/-- R171: taking the head request makes a reservation, for which there is a place (R12). -/
theorem taken_fits {r : Request} {rest : List Request} (h : QueuesFit false s)
    (hh : Heads s r rest) : QueuesFit true (s.taken rest) := by
  have hplace := State.canTake_place hh.2
  have hreq := h.requests
  rw [hh.1, List.length_cons] at hreq
  exact ⟨rfl, by simpa [State.taken] using hplace, h.aft,
    by simpa [State.taken] using (Nat.le_of_succ_le hreq), h.counters⟩

/-- R12: the reply takes the reserved place and releases the reservation. -/
theorem placeReply_fits (r : Request) (a : Reply) (h : QueuesFit true s) :
    QueuesFit false (placeReply r a s) := by
  obtain ⟨-, -, -, haft, -, hres, hfore⟩ :=
    Ports.foreAdmit_other { s.ports with reservation := false } (replyFrame r a s)
  exact { h with
    reservation := hres
    fore := hfore.trans h.fore
    aft := (congrArg List.length haft).trans_le h.aft }

theorem setOpState_fits (x : OpState) (h : QueuesFit held s) : QueuesFit held (setOpState x s) :=
  { h with }

theorem changeToSafe_fits (h : QueuesFit held s) : QueuesFit held (changeToSafe s) := by
  refine parkAllWaiting_fits (forCars_keeps (fun c t ht => ?_) _ (setOpState_fits _ h))
  unfold parkForSafe
  dsimp only
  split
  · exact setChannel_fits _ _ ht
  · exact setChannel_fits _ _ ht

theorem changeToActive_fits (h : QueuesFit held s) : QueuesFit held (changeToActive s) := by
  refine forCars_keeps (fun c t ht => ?_) _ (setOpState_fits _ h)
  unfold activateCar
  dsimp only
  split
  · exact setChannel_fits _ _ ht
  · split
    · split
      · exact setChannel_fits _ _ ht
      · exact setChannel_fits _ _ ht
    · exact ht

theorem changeToStandby_fits (h : QueuesFit held s) : QueuesFit held (changeToStandby s) :=
  forCars_keeps (fun c _ => setChannel_fits c _) _ (setOpState_fits _ h)

theorem changed_fits (before : OpState) (h : QueuesFit held s) :
    QueuesFit held (changed before s).2 := offerReport_fits _ h

theorem refuseLeaving_fits (target : OpState) (f : CheckFailure) (h : QueuesFit held s) :
    QueuesFit held (refuseLeaving target f s).2 := offerReport_fits _ h

theorem setTarget_fits (target : OpState) (h : QueuesFit held s) :
    QueuesFit held (setTarget target s).2 := by
  unfold setTarget
  split
  · exact h
  · exact h
  · exact h
  · exact changed_fits _ (changeToSafe_fits h)
  · exact changed_fits _ (changeToSafe_fits h)
  · exact changed_fits _ (changeToActive_fits h)
  · exact changed_fits _ (changeToStandby_fits h)
  · split
    · exact refuseLeaving_fits _ _ h
    · exact changed_fits _ (setOpState_fits _ h)
  · split
    · exact refuseLeaving_fits _ _ h
    · exact changed_fits _ (changeToActive_fits h)

theorem actSetState_fits (p : List Byte) (h : QueuesFit held s) :
    QueuesFit held (actSetState p s).2 := by
  unfold actSetState
  split
  · exact h
  · exact setTarget_fits _ h

theorem actSetLineProfile_fits (p : List Byte) (h : QueuesFit held s) :
    QueuesFit held (actSetLineProfile p s).2 := by
  have h1 := h.of_frame (setProfile_frame s (readLineProfile p))
  unfold actSetLineProfile
  split
  · exact h
  · split
    · exact h
    · unfold writeProfile done
      split
      · exact h1
      · exact lineClear_fits _ h1

theorem enableCar_fits (c : Car) (h : QueuesFit held s) : QueuesFit held (enableCar c s) :=
  setRegime_fits _ _ (setChannel_fits _ _ (enterStill_fits _ _ h))

theorem disableCar_fits (c : Car) (h : QueuesFit held s) : QueuesFit held (disableCar c s) :=
  markerDisable_fits _ (enterStill_fits _ _ h)

theorem applyCarProfile_fits (c : Car) (x : CarProfile) (h : QueuesFit held s) :
    QueuesFit held (applyCarProfile c x s) := by
  have h1 : QueuesFit held (writeCarProfile c x s) := h.of_frame (setDemand_frame s _)
  unfold applyCarProfile
  dsimp only
  split
  · split
    · exact enableCar_fits _ h1
    · exact h1
  · split
    · exact h1
    · exact disableCar_fits _ h1

theorem actSetCarProfile_fits (p : List Byte) (h : QueuesFit held s) :
    QueuesFit held (actSetCarProfile p s).2 := by
  rcases actSetCarProfile_cases p s with e | ⟨c, x, -, e⟩ <;> rw [e]
  · exact h
  · exact applyCarProfile_fits c x h

theorem actClearCar_fits (p : List Byte) (h : QueuesFit held s) :
    QueuesFit held (actClearCar p s).2 := by
  unfold actClearCar
  split
  · exact h
  · split
    · exact h
    · split
      · exact h
      · exact setChannel_fits _ _ (enterStill_fits _ _ h)

theorem releaseHold_fits (hold : Attention) (e : RegimeEntry) (h : QueuesFit held s) :
    QueuesFit held (releaseHold hold e s) := pass_fits _ (endHold_fits _ _ h)

theorem release_fits (serial : Nat) (replacement : Option RegimeEntry) (h : QueuesFit held s) :
    QueuesFit held (release serial replacement s).2 := by
  unfold release
  split
  · split
    · rw [done_snd]
      exact releaseHold_fits _ _ h
    · split
      · exact h
      · exact h
  · split
    · exact h
    · exact h

theorem actAttentionRelease_fits (p : List Byte) (h : QueuesFit held s) :
    QueuesFit held (actAttentionRelease p s).2 := by
  unfold actAttentionRelease
  split
  · exact h
  · exact release_fits _ _ h
  · split
    · exact h
    · exact release_fits _ _ h

theorem actCaptureStart_fits (p : List Byte) (h : QueuesFit held s) :
    QueuesFit held (actCaptureStart p s).2 := by
  unfold actCaptureStart
  dsimp only
  split
  · exact h
  · split
    · exact h
    · split
      · exact h
      · split
        · exact beginCapture_fits _ _ _ _ _ _ h
        · split
          · exact h
          · exact beginCapture_fits _ _ _ _ _ _ h

theorem actCaptureRead_fits (p : List Byte) (h : QueuesFit held s) :
    QueuesFit held (actCaptureRead p s).2 := by
  unfold actCaptureRead
  split
  · exact h
  · exact h
  · exact h
  · split
    · exact overtakingTest_fits h
    · exact h.of_frame (setCapture_frame s _)

/-- What the owning block of a request does keeps the queues and the counters. -/
theorem act_fits {name : RequestName} {act : List Byte → State → Reply × State}
    (hact : name.act = some act) (p : List Byte) (h : QueuesFit held s) :
    QueuesFit held (act p s).2 := by
  obtain ⟨hstatus, hcar, hmarkers, hbank⟩ := actRead_snd p s
  cases name <;> cases hact
  case readStatus => rw [hstatus]; exact h
  case readCar => rw [hcar]; exact h
  case readMarkers => rw [hmarkers]; exact h
  case readBank => rw [hbank]; exact h
  case setState => exact actSetState_fits p h
  case setLineProfile => exact actSetLineProfile_fits p h
  case setCarProfile => exact actSetCarProfile_fits p h
  case setCarOrder => exact h.of_frame (actSetCarOrder_frame p s)
  case clearCar => exact actClearCar_fits p h
  case setIntakeEntry => exact h.of_frame (actSetIntakeEntry_frame p s)
  case setRegimeEntry => exact h.of_frame (actSetRegimeEntry_frame p s)
  case attentionRelease => exact actAttentionRelease_fits p h
  case clearMarkerLoss => exact setLoss_fits _ h
  case routeOpen => exact h.of_frame (actRouteOpen_frame p s)
  case routePoints => exact h.of_frame (actRoutePoints_frame p s)
  case routeClose => exact h.of_frame (actRouteClose_frame p s)
  case routeDiscard => exact h.of_frame (actRouteDiscard_frame p s)
  case captureStart => exact actCaptureStart_fits p h
  case captureRead => exact actCaptureRead_fits p h
  case captureRelease => exact h.of_frame (setCapture_frame s _)

/-- R158: both queues are emptied but for the reply. -/
theorem restartQueues_fits (r : Request) (h : QueuesFit true s) :
    QueuesFit false (restartQueues r s) := by
  obtain ⟨-, -, -, haft, -, hres, hfore⟩ := Ports.foreKick_other
    { s.ports with reservation := false, aftQueue := [], waiting := none,
                   foreQueue := [replyFrame r (.bare .ok) s] }
  exact { h with
    reservation := hres
    fore := hfore.trans (by simp)
    aft := (congrArg List.length haft).trans_le (Nat.zero_le 8) }

theorem restartBlocks_fits (h : QueuesFit held s) : QueuesFit held (restartBlocks s) := by
  have hcars : QueuesFit held (forCars restartCar (setOpState .safe s)) :=
    forCars_keeps (fun c _ => setChannel_fits c _) _ (setOpState_fits _ h)
  have hodo : QueuesFit held (restartOdometry (forCars restartCar (setOpState .safe s))) :=
    (hcars.of_frame (setOdo_frame _ _)).of_frame (setSpeed_frame 0 _)
  have hsensor := setSensor_fits .reset hodo
  have hdemand : QueuesFit held (restartDemand _) := hsensor.of_frame (setDemand_frame _ _)
  exact (lineClear_fits _ hdemand).of_frame (setMarker_frame _ _)

/-! ## The step -/

theorem event_fits {c : Instr} {f : State → State} (hf : eventOf c = some f)
    (h : QueuesFit false s) : QueuesFit false (f s) := by
  cases c <;> cases hf
  case coldResetAssert => exact assertReset_fits h
  case coldResetRelease straps => exact releaseReset_fits straps s
  case portFrameReceived port run => exact unlessReset_keeps (receiveRun_fits port run h) h
  case aftTransmitEnd => exact unlessReset_keeps (aftEnd_fits h) h
  case foreTransmitEnd => exact unlessReset_keeps (foreEnd_fits h) h
  case odometryTimeout => exact unlessReset_keeps (odometryExpiry_fits h) h
  case channelTimeout x => exact unlessReset_keeps (channelExpiry_fits x h) h
  case commandTimerExpiry => exact unlessReset_keeps (commandExpiry_fits h) h
  case attentionTimerExpiry => exact unlessReset_keeps (attentionExpiry_fits h) h
  case unknownRequest =>
    exact serveUnknown_keeps h (fun _ _ => taken_fits h) (fun r a _ => placeReply_fits r a)

theorem served_fits (name : RequestName) (h : QueuesFit false s) :
    QueuesFit false (name.served s) :=
  served_keeps h (fun _ _ => taken_fits h) (fun r a _ => placeReply_fits r a)
    (fun r _ => restartQueues_fits r) (fun _ => restartBlocks_fits)
    (fun _ _ hact p _ => act_fits hact p) name

theorem step_fits {t : State} (hstep : step s = .next t) (h : QueuesFit false s) :
    QueuesFit false t :=
  step_keeps (fun _ _ hs => { hs with }) (fun _ _ _ hf => event_fits hf)
    (fun name _ => served_fits name) hstep h

end Fits

/-- Settles O51: the queues and the counters fit before the step, and each event and each request
keeps them; a reservation is held only between the taking of a request and its reply. -/
theorem portsStaySound : Obligations.PortsStaySound := fun s t hs hstep =>
  (portsSound_iff t).2 (step_fits hstep ((portsSound_iff s).1 hs))

end Sys2Proof.Machine
end

section
/-! The loaded tables (R4, R5, R139, R157): the intake table changes its entries by Set Intake Entry
alone, the profiles by Set Line Profile and Set Car Profile alone, and each writes only what its rules
allow. -/

set_option Elab.async false

namespace Sys2Proof.Machine

/-! ## The intake table -/

/-- R5 test 3, said once: an entry that does not clash holds its role's class, and no other index holds
its source and class, or its role where at most one entry may hold it. -/
theorem entryClash_eq_false {t : Vector IntakeSlot 16} {i : Fin 16} {e : IntakeEntry} :
    entryClash t i e = false ↔ e.cls = e.role.cls ∧ ∀ j : Fin 16, j ≠ i → ∀ x ∈ t[j].entry,
      ¬(x.source = e.source ∧ x.cls = e.cls) ∧ (e.role.single = true → x.role ≠ e.role) := by
  simp only [entryClash, Bool.or_eq_false_iff, decide_eq_false_iff_not, not_not, List.any_eq_false,
    mem_intakeIndexes, true_implies, Bool.and_eq_true, decide_eq_true_eq, not_and,
    Option.any_eq_true, Option.mem_def, not_exists, Bool.or_eq_true, not_or]

theorem intakeSound_of_entries {s t : State}
    (h : ∀ j : Fin 16, t.intake[j].entry = s.intake[j].entry) (hs : IntakeSound s) :
    IntakeSound t := by
  intro i e he
  rw [h i] at he
  obtain ⟨hcls, hother⟩ := hs i e he
  refine ⟨hcls, fun j x hx => ?_⟩
  rw [h j] at hx
  exact hother j x hx

/-- What leaves the intake table alone keeps it sound. -/
theorem intakeSound_of_frame {fs : List Field} {s t : State} (hs : IntakeSound s)
    (h : SameBut fs s t) (hf : Field.intake ∉ fs := by decide) : IntakeSound t := by
  have hintake : t.intake = s.intake := h .intake hf
  exact intakeSound_of_entries (fun j => by simp only [hintake]) hs

/-- R5: an index made empty. -/
theorem writeIntake_none_sound {s : State} (i : Fin 16) (hs : IntakeSound s) :
    IntakeSound (writeIntake i none s) := by
  have hentry : ∀ (j : Fin 16) (e : IntakeEntry),
      e ∈ (writeIntake i none s).intake[j].entry → e ∈ s.intake[j].entry := by
    intro j e he
    by_cases hj : j = i
    · subst hj
      simp [writeIntake] at he
    · rwa [writeIntake, State.setIntake_intake, vector_set_other _ _ hj] at he
  intro j e he
  obtain ⟨hcls, hother⟩ := hs j e (hentry j e he)
  exact ⟨hcls, fun k x hx => hother k x (hentry k x hx)⟩

/-- R5: an entry that does not clash written at its index. -/
theorem writeIntake_some_sound {s : State} {i : Fin 16} {y : IntakeEntry}
    (hy : entryClash s.intake i y = false) (hs : IntakeSound s) :
    IntakeSound (writeIntake i (some y) s) := by
  obtain ⟨hcls, hothers⟩ := entryClash_eq_false.1 hy
  have hentry : ∀ (j : Fin 16) (e : IntakeEntry), e ∈ (writeIntake i (some y) s).intake[j].entry →
      j = i ∧ e = y ∨ j ≠ i ∧ e ∈ s.intake[j].entry := by
    intro j e he
    by_cases hj : j = i
    · subst hj
      exact .inl ⟨rfl, by simpa [writeIntake, eq_comm] using he⟩
    · rw [writeIntake, State.setIntake_intake, vector_set_other _ _ hj] at he
      exact .inr ⟨hj, he⟩
  intro j e he
  rcases hentry j e he with ⟨rfl, rfl⟩ | ⟨hj, hej⟩
  · refine ⟨hcls, fun k x hx hk => ?_⟩
    rcases hentry k x hx with ⟨rfl, -⟩ | ⟨-, hx⟩
    · exact absurd rfl hk
    · exact hothers k hk x hx
  · obtain ⟨hecls, heothers⟩ := hs j e hej
    refine ⟨hecls, fun k x hx hk => ?_⟩
    rcases hentry k x hx with ⟨rfl, rfl⟩ | ⟨-, hx⟩
    · obtain ⟨hsource, hrole⟩ := hothers j hj e hej
      exact ⟨fun h => hsource ⟨h.1.symm, h.2.symm⟩,
        fun hsingle h => hrole (h ▸ hsingle) h.symm⟩
    · exact heothers k x hx hk

/-- R8: the sequence test writes the sequence memory and no entry. -/
theorem acceptSeq_intakeSound (i : Fin 16) (n : Byte) (test : SeqTest) {s : State}
    (hs : IntakeSound s) : IntakeSound (acceptSeq i n test s) := by
  have h : IntakeSound (s.setIntake (s.intake.set i { s.intake[i] with memory := some n })) := by
    refine intakeSound_of_entries (fun j => ?_) hs
    by_cases hj : j = i
    · subst hj; simp
    · rw [State.setIntake_intake, vector_set_other _ _ hj]
  unfold acceptSeq
  dsimp only
  split
  · exact intakeSound_of_frame h (setCounters_frame _ _)
  · exact h

theorem acceptRequest_intakeSound (f : Frame) {s : State} (hs : IntakeSound s) :
    IntakeSound (acceptRequest f s) := by
  unfold acceptRequest
  split
  · split
    · exact intakeSound_of_frame hs (queueRequest_frame _ _ _)
    · split
      · exact hs
      · exact intakeSound_of_frame (acceptSeq_intakeSound _ _ _ hs) (queueRequest_frame _ _ _)
  · exact intakeSound_of_frame hs (queueRequest_frame _ _ _)

theorem matchedFrame_intakeSound (i : Fin 16) (e : IntakeEntry) (port : Port) (f : Frame)
    {s : State} (hs : IntakeSound s) : IntakeSound (matchedFrame i e port f s) := by
  unfold matchedFrame
  split
  · exact hs
  · exact intakeSound_of_frame (acceptSeq_intakeSound _ _ _ hs) (handOver_frame _ _ _ _)

theorem receiveRun_intakeSound (port : Port) (run : List Byte) {s : State} (hs : IntakeSound s) :
    IntakeSound (receiveRun port run s) := by
  have hforward : ∀ f, IntakeSound (forward port f s) :=
    fun f => intakeSound_of_frame hs (forward_frame port f s)
  unfold receiveRun
  split
  · cases port <;> exact intakeSound_of_frame hs (setCounters_frame _ _)
  · unfold intakeFrame
    split
    · split
      · exact acceptRequest_intakeSound _ hs
      · exact hforward _
    · split
      · exact hforward _
      · split
        · exact matchedFrame_intakeSound _ _ _ _ hs
        · exact hforward _

theorem releaseReset_intakeSound (straps : Byte) (s : State) :
    IntakeSound (releaseReset straps s) := by
  intro i e he
  simp [releaseReset, State.reset, intakeReset] at he

theorem event_intakeSound {c : Instr} {f : State → State} (hf : eventOf c = some f) {s : State}
    (hs : IntakeSound s) : IntakeSound (f s) := by
  cases c <;> cases hf
  case coldResetAssert => exact intakeSound_of_frame hs (assertReset_frame s)
  case coldResetRelease straps => exact releaseReset_intakeSound straps s
  case portFrameReceived port run => exact unlessReset_keeps (receiveRun_intakeSound port run hs) hs
  case aftTransmitEnd =>
    exact unlessReset_keeps (intakeSound_of_frame hs (aftEnd_frame s)) hs
  case foreTransmitEnd =>
    exact unlessReset_keeps (intakeSound_of_frame hs (foreEnd_frame s)) hs
  case odometryTimeout =>
    exact unlessReset_keeps (intakeSound_of_frame hs (odometryExpiry_frame s)) hs
  case channelTimeout x =>
    exact unlessReset_keeps (intakeSound_of_frame hs (channelExpiry_frame x s)) hs
  case commandTimerExpiry =>
    exact unlessReset_keeps (intakeSound_of_frame hs (commandExpiry_frame s)) hs
  case attentionTimerExpiry =>
    exact unlessReset_keeps (intakeSound_of_frame hs (attentionExpiry_frame s)) hs
  case unknownRequest =>
    exact serveUnknown_keeps hs (fun _ rest _ => intakeSound_of_frame hs (taken_frame s rest))
      fun r a u hu => intakeSound_of_frame hu (placeReply_frame r a u)

/-- R5: no request but Set Intake Entry changes the intake table. -/
theorem act_intakeSound {name : RequestName} {act : List Byte → State → Reply × State}
    (hact : name.act = some act) (p : List Byte) {s : State} (hs : IntakeSound s) :
    IntakeSound (act p s).2 := by
  by_cases hname : name = .setIntakeEntry
  · subst hname
    cases hact
    rcases actSetIntakeEntry_cases p s with e | ⟨i, e⟩ | ⟨i, x, hx, e⟩ <;> rw [e]
    · exact hs
    · exact writeIntake_none_sound i hs
    · exact writeIntake_some_sound hx hs
  · refine intakeSound_of_frame hs (act_frame hact p s) ?_
    revert hname
    cases name <;> decide

theorem step_intakeSound {s t : State} (hstep : step s = .next t) (hs : IntakeSound s) :
    IntakeSound t :=
  step_keeps (P := IntakeSound) (fun _ _ h => h) (fun _ _ _ hf h => event_intakeSound hf h)
    (fun name s h => served_keeps h (fun _ rest _ => intakeSound_of_frame h (taken_frame s rest))
      (fun r a u hu => intakeSound_of_frame hu (placeReply_frame r a u))
      (fun r u hu => intakeSound_of_frame hu (restartQueues_frame r u))
      (fun u hu => intakeSound_of_frame hu (restartBlocks_frame u))
      (fun _ _ hact p _ hu => act_intakeSound hact p hu) name) hstep hs

/-! ## The profiles -/

/-- R139: a car profile in its ranges at some line length is so at the least that its tap offset
allows. -/
theorem CarProfile.inRange_least {x : CarProfile} {len : Nat} (h : x.inRange len = true) :
    x.inRange (x.tapOffset + 2) = true := by
  simp only [CarProfile.inRange, Bool.and_eq_true, decide_eq_true_eq] at h ⊢
  exact ⟨h.1, by omega⟩

/-- Two states hold the same line profile and the same car profiles. -/
def SameProfiles (s t : State) : Prop :=
  t.profile = s.profile ∧ t.demand.profiles = s.demand.profiles

theorem SameProfiles.trans {s t u : State} (h : SameProfiles s t) (k : SameProfiles t u) :
    SameProfiles s u := ⟨k.1.trans h.1, k.2.trans h.2⟩

theorem SameProfiles.of_frame {fs : List Field} {s t : State} (h : SameBut fs s t)
    (hf : Field.profile ∉ fs ∧ Field.demand ∉ fs := by decide) : SameProfiles s t :=
  ⟨h .profile hf.1, congrArg Demand.profiles (h .demand hf.2)⟩

theorem SameProfiles.sound {s t : State} (h : SameProfiles s t) (hs : ProfilesSound s) :
    ProfilesSound t := by
  obtain ⟨hprofile, hprofiles⟩ := h
  simpa only [ProfilesSound, State.carProfile, hprofile, hprofiles] using hs

theorem setSpeed_profiles (v : Nat) (s : State) : SameProfiles s (setSpeed v s) := ⟨rfl, rfl⟩

theorem forCars_profiles {f : Car → State → State} (h : ∀ c s, SameProfiles s (f c s)) (s : State) :
    SameProfiles s (forCars f s) :=
  forCars_keeps (p := SameProfiles s) (fun c t ht => ht.trans (h c t)) s ⟨rfl, rfl⟩

theorem slip_profiles (s : State) : SameProfiles s (slip s) := by
  unfold slip
  dsimp only
  split
  · exact .of_frame (setOdo_frame _ _)
  · exact (SameProfiles.of_frame (setOdo_frame _ _)).trans (.of_frame (offerReport_frame _ _))

theorem recover_profiles (k : Nat) (s : State) : SameProfiles s (recover k s) := by
  unfold recover
  split
  · split
    · exact (SameProfiles.of_frame (setOdo_frame _ _)).trans (.of_frame (offerReport_frame _ _))
    · exact .of_frame (setOdo_frame _ _)
  · exact ⟨rfl, rfl⟩

theorem takeDelta_profiles (delta : Int) (s : State) : SameProfiles s (takeDelta delta s) := by
  unfold takeDelta
  split
  · exact (SameProfiles.of_frame (setOdo_frame _ _)).trans (.of_frame (offerReport_frame _ _))
  · split
    · exact .of_frame (setOdo_frame _ _)
    · dsimp only
      split
      · exact .of_frame (setOdo_frame _ _)
      · exact (SameProfiles.of_frame (setOdo_frame _ _)).trans (.of_frame (advance_frame _ _ _))

theorem setReference_profiles (d : Distance) (v : Nat) (s : State) :
    SameProfiles s (setReference d v s) := ⟨rfl, rfl⟩

theorem takeOdometry_profiles (d : Distance) (v : Nat) (slipped : Bool) (s : State) :
    SameProfiles s (takeOdometry d v slipped s) := by
  unfold takeOdometry
  split
  · have h := setReference_profiles d v s
    unfold takeUnset
    dsimp only
    split
    · exact h.trans (slip_profiles _)
    · exact h
  · have hset : SameProfiles s ((setSpeed v s).setOdo
        { (setSpeed v s).odo with timeout := some 100, lastDistance := d }) :=
      (setSpeed_profiles v s).trans (.of_frame (setOdo_frame _ _))
    have h := hset.trans (takeDelta_profiles (counterDiff d (setSpeed v s).odo.lastDistance) _)
    unfold takeTracking
    dsimp only
    split
    · exact h.trans (slip_profiles _)
    · exact h.trans (recover_profiles _ _)
  · have h := (SameProfiles.of_frame (lineClear_frame
      (some (.odometry .restored .tracking s.line.inputCell none)) s)).trans
        (setReference_profiles d v _)
    unfold takeLost
    dsimp only
    split
    · exact h.trans (slip_profiles _)
    · exact h

theorem handleOdometry_profiles (p : List Byte) (s : State) :
    SameProfiles s (handleOdometry p s) := by
  unfold handleOdometry
  split
  · exact ⟨rfl, rfl⟩
  · split
    · exact takeOdometry_profiles _ _ _ _
    · split
      · exact takeOdometry_profiles _ _ _ _
      · exact ⟨rfl, rfl⟩

theorem odometryExpiry_profiles (s : State) : SameProfiles s (odometryExpiry s) := by
  unfold odometryExpiry
  dsimp only
  split
  · exact ((SameProfiles.of_frame (setOdo_frame _ _)).trans (setSpeed_profiles 0 _)).trans
      (.of_frame (offerReport_frame _ _))
  · exact ⟨rfl, rfl⟩

theorem storeComputation_profiles (c : Car) (r : Computation) (s : State) :
    SameProfiles s (storeComputation c r s) := by
  have hlast : SameProfiles s (s.setDemand { s.demand with last := s.demand.last.set c (some r) }) :=
    ⟨rfl, rfl⟩
  unfold storeComputation
  dsimp only
  split
  · exact (hlast.trans (.of_frame (setChannel_frame _ _ _))).trans
      (.of_frame (stillReport_frame c _ _ _ _))
  · exact hlast.trans (.of_frame (setChannel_frame _ _ _))

theorem computeCar_profiles (c : Car) (s : State) : SameProfiles s (computeCar c s) := by
  unfold computeCar
  split
  · exact storeComputation_profiles _ _ _
  · exact storeComputation_profiles _ _ _
  · exact ⟨rfl, rfl⟩

theorem commandExpiry_profiles (s : State) : SameProfiles s (commandExpiry s) := by
  have h : SameProfiles s (restartTimer s) := ⟨rfl, rfl⟩
  unfold commandExpiry
  dsimp only
  split
  · exact (h.trans (.of_frame (setCounters_frame _ _))).trans (.of_frame (ageAll_frame _))
  · exact ((h.trans (forCars_profiles computeCar_profiles _)).trans
      (.of_frame (buildCommand_frame _))).trans (.of_frame (ageAll_frame _))

theorem deliver_profiles (role : Role) (p : List Byte) (s : State) :
    SameProfiles s (deliver role p s) := by
  cases role with
  | sensorP => exact .of_frame (handleSensor_frame _ _ _)
  | sensorQ => exact .of_frame (handleSensor_frame _ _ _)
  | odometry => exact handleOdometry_profiles _ _
  | markerReader => exact .of_frame (handleMarker_frame _ _)
  | unitStatus => exact .of_frame (handleUnitStatus_frame _ _)
  | manager => exact ⟨rfl, rfl⟩

theorem forward_profiles (port : Port) (f : Frame) (s : State) :
    SameProfiles s (forward port f s) := .of_frame (forward_frame port f s)

theorem handOver_profiles (e : IntakeEntry) (port : Port) (f : Frame) (s : State) :
    SameProfiles s (handOver e port f s) := by
  have hbook : SameProfiles s (s.setBook { s.book with choices := s.book.choices + 1 }) := ⟨rfl, rfl⟩
  unfold handOver
  dsimp only
  split
  · split
    · exact (deliver_profiles _ _ _).trans (forward_profiles _ _ _)
    · split
      · exact (hbook.trans (forward_profiles _ _ _)).trans (deliver_profiles _ _ _)
      · exact (hbook.trans (deliver_profiles _ _ _)).trans (forward_profiles _ _ _)
  · exact deliver_profiles _ _ _

theorem receiveRun_profiles (port : Port) (run : List Byte) (s : State) :
    SameProfiles s (receiveRun port run s) := by
  unfold receiveRun
  split
  · cases port <;> exact ⟨rfl, rfl⟩
  · unfold intakeFrame
    split
    · split
      · exact .of_frame (acceptRequest_frame _ _)
      · exact forward_profiles _ _ _
    · split
      · exact forward_profiles _ _ _
      · split
        · unfold matchedFrame
          split
          · exact ⟨rfl, rfl⟩
          · exact (SameProfiles.of_frame (acceptSeq_frame _ _ _ _)).trans (handOver_profiles _ _ _ _)
        · exact forward_profiles _ _ _

theorem releaseReset_profilesSound (straps : Byte) (s : State) :
    ProfilesSound (releaseReset straps s) := by
  refine ⟨(by decide : LineProfile.reset.inRange = true), fun c => ?_⟩
  have h : (releaseReset straps s).carProfile c = .reset := by
    simp [releaseReset, State.reset, State.carProfile, Demand.reset]
  rw [h]
  decide

theorem event_profilesSound {c : Instr} {f : State → State} (hf : eventOf c = some f) {s : State}
    (hs : ProfilesSound s) : ProfilesSound (f s) := by
  have hframe : ∀ {g : State → State}, SameProfiles s (g s) → ProfilesSound (unlessReset g s) :=
    fun h => unlessReset_keeps (h.sound hs) hs
  cases c <;> cases hf
  case coldResetAssert => exact hs
  case coldResetRelease straps => exact releaseReset_profilesSound straps s
  case portFrameReceived port run => exact hframe (receiveRun_profiles port run s)
  case aftTransmitEnd => exact hframe (.of_frame (aftEnd_frame s))
  case foreTransmitEnd => exact hframe (.of_frame (foreEnd_frame s))
  case odometryTimeout => exact hframe (odometryExpiry_profiles s)
  case channelTimeout x => exact hframe (.of_frame (channelExpiry_frame x s))
  case commandTimerExpiry => exact hframe (commandExpiry_profiles s)
  case attentionTimerExpiry => exact hframe (.of_frame (attentionExpiry_frame s))
  case unknownRequest =>
    exact serveUnknown_keeps (Q := ProfilesSound) hs (fun _ _ _ => hs) fun _ _ _ hu => hu

/-- R157: a line profile in its ranges written, with the line clear that a different line length
brings. -/
theorem actSetLineProfile_sound (p : List Byte) {s : State} (hs : ProfilesSound s) :
    ProfilesSound (actSetLineProfile p s).2 := by
  unfold actSetLineProfile
  split
  · exact hs
  · split
    · exact hs
    · rename_i hrange
      have hset : ProfilesSound (s.setProfile (readLineProfile p)) :=
        ⟨by simpa using hrange, hs.2⟩
      rw [done_snd]
      unfold writeProfile
      split
      · exact hset
      · exact (SameProfiles.of_frame (lineClear_frame none _)).sound hset

/-- R139: a car profile in its ranges written; what follows from it leaves the profiles alone. -/
theorem applyCarProfile_sound {c : Car} {x : CarProfile} {s : State}
    (hx : x.inRange s.profile.lineLength = true) (hs : ProfilesSound s) :
    ProfilesSound (applyCarProfile c x s) := by
  have hwrite : ProfilesSound (writeCarProfile c x s) := by
    refine ⟨hs.1, fun d => ?_⟩
    by_cases hd : d = c
    · subst hd
      have h : (writeCarProfile d x s).carProfile d = x := vector_set_same _ _ _
      rw [h]
      exact CarProfile.inRange_least hx
    · have h : (writeCarProfile c x s).carProfile d = s.carProfile d := vector_set_other _ _ hd
      rw [h]
      exact hs.2 d
  unfold applyCarProfile
  dsimp only
  split
  · split
    · exact (SameProfiles.of_frame (enableCar_frame c _)).sound hwrite
    · exact hwrite
  · split
    · exact hwrite
    · exact (SameProfiles.of_frame (disableCar_frame c _)).sound hwrite

theorem actSetCarProfile_sound (p : List Byte) {s : State} (hs : ProfilesSound s) :
    ProfilesSound (actSetCarProfile p s).2 := by
  rcases actSetCarProfile_cases p s with e | ⟨c, x, hx, e⟩ <;> rw [e]
  · exact hs
  · exact applyCarProfile_sound hx hs

theorem restartOdometry_profiles (s : State) : SameProfiles s (restartOdometry s) := ⟨rfl, rfl⟩

theorem restartDemand_profiles (s : State) : SameProfiles s (restartDemand s) := ⟨rfl, rfl⟩

theorem restartBlocks_profiles (s : State) : SameProfiles s (restartBlocks s) := by
  have hcars : SameProfiles s (forCars restartCar (setOpState .safe s)) :=
    (SameProfiles.of_frame (setOpState_frame .safe s)).trans
      (forCars_profiles (fun c t => .of_frame (setChannel_frame c _ t)) _)
  have hblocks : SameProfiles s (restartDemand (restartSensor (restartOdometry
      (forCars restartCar (setOpState .safe s))))) :=
    ((hcars.trans (restartOdometry_profiles _)).trans (.of_frame (setSensor_frame _ _))).trans
      (restartDemand_profiles _)
  exact (hblocks.trans (.of_frame (lineClear_frame _ _))).trans (.of_frame (setMarker_frame _ _))

/-- R139, R157: no request but Set Line Profile and Set Car Profile changes a profile. -/
theorem act_profilesSound {name : RequestName} {act : List Byte → State → Reply × State}
    (hact : name.act = some act) (p : List Byte) {s : State} (hs : ProfilesSound s) :
    ProfilesSound (act p s).2 := by
  by_cases hname : name = .setLineProfile ∨ name = .setCarProfile ∨ name = .warmRestart
  · rcases hname with rfl | rfl | rfl <;> cases hact
    · exact actSetLineProfile_sound p hs
    · exact actSetCarProfile_sound p hs
  · refine (SameProfiles.of_frame (act_frame hact p s) ?_).sound hs
    revert hname
    cases name <;> decide

theorem step_profilesSound {s t : State} (hstep : step s = .next t) (hs : ProfilesSound s) :
    ProfilesSound t :=
  step_keeps (P := ProfilesSound) (fun _ _ h => h) (fun _ _ _ hf h => event_profilesSound hf h)
    (fun name _ h => served_keeps (Q := ProfilesSound) h (fun _ _ _ => h) (fun _ _ _ hu => hu)
      (fun _ _ hu => hu) (fun u hu => (restartBlocks_profiles u).sound hu)
      (fun _ _ hact p _ hu => act_profilesSound hact p hu) name) hstep hs

/-- Settles O52: the intake table and the profiles are changed by their own requests alone, each of
which writes only what its tests let through. -/
theorem loadedTablesStaySound : Obligations.LoadedTablesStaySound :=
  fun _ _ hstep => ⟨step_intakeSound hstep, step_profilesSound hstep⟩

end Sys2Proof.Machine
end

section
/-! The frame check and the frame's bytes (R1, R2, section 12.1): the division step, its injectivity,
and what the receiver takes, byte for byte. -/

set_option Elab.async false

namespace Sys2Proof.Machine

/-! ## The check -/

theorem frameCheck_concat (bs : List Byte) (b : Byte) :
    frameCheck (bs ++ [b]) = checkByte (frameCheck bs) b := by
  simp [frameCheck]

/-- One byte of the division is eight of its bits. -/
theorem checkByte_eq_foldl (r : Word16) (b : Byte) :
    checkByte r b = (List.range 8).foldl (fun (r : Word16) _ => checkBit r)
      (r ^^^ (b.zeroExtend 16 <<< 8)) := rfl

/-- The division by x^16 + x^12 + x^5 + 1 can be undone bit by bit: the bit shifted in at the bottom
is the bit that was shifted out at the top. -/
theorem checkBit_injective : Function.Injective checkBit := by
  have hbottom : ∀ r : Word16, (checkBit r).getLsbD 0 = r.msb := by
    intro r
    unfold checkBit
    split
    · rename_i h; simp [h]
    · rename_i h; simp [h]
  intro r s h
  have hmsb : r.msb = s.msb := by rw [← hbottom r, ← hbottom s, h]
  have hshift : r <<< 1 = s <<< 1 := by
    unfold checkBit at h
    rw [hmsb] at h
    split at h
    · exact (BitVec.xor_left_inj _).1 h
    · exact h
  apply BitVec.eq_of_getLsbD_eq
  intro i hi
  by_cases htop : i = 15
  · subst htop
    simpa [BitVec.msb_eq_getLsbD_last] using hmsb
  · have := congrArg (fun x => x.getLsbD (i + 1)) hshift
    simpa only [BitVec.getLsbD_shiftLeft, show i + 1 < 16 by omega, decide_true, Bool.true_and,
      show ¬ i + 1 < 1 by omega, decide_false, Bool.not_false, Nat.add_sub_cancel] using this

theorem foldl_checkBit_injective :
    Function.Injective (fun r : Word16 =>
      (List.range 8).foldl (fun (x : Word16) _ => checkBit x) r) := by
  intro r s h
  have h8 : ∀ x : Word16, (List.range 8).foldl (fun (r : Word16) _ => checkBit r) x =
      checkBit^[8] x := fun _ => rfl
  exact (checkBit_injective.iterate 8) (by simpa only [h8] using h)

/-- The register before a byte is determined by the register after it. -/
theorem checkByte_left_injective (b : Byte) : Function.Injective (fun r => checkByte r b) := by
  intro r s h
  exact (BitVec.xor_left_inj _).1 (foldl_checkBit_injective h)

/-- The byte taken is determined by the registers before and after it. -/
theorem checkByte_right_injective (r : Word16) : Function.Injective (checkByte r) := by
  intro a b h
  have hx := (BitVec.xor_right_inj _).1 (foldl_checkBit_injective h)
  apply BitVec.eq_of_getLsbD_eq
  intro i hi
  have := congrArg (fun x => x.getLsbD (i + 8)) hx
  simpa only [BitVec.getLsbD_shiftLeft, BitVec.getLsbD_setWidth, BitVec.truncate_eq_setWidth,
    show i + 8 < 16 by omega, show i < 16 by omega, decide_true, Bool.true_and,
    show ¬ i + 8 < 8 by omega, decide_false, Bool.not_false, Nat.add_sub_cancel] using this

/-- Registers that differ stay different over the same bytes. -/
theorem foldl_checkByte_injective (bs : List Byte) :
    Function.Injective (fun r => bs.foldl checkByte r) := by
  induction bs with
  | nil => exact fun _ _ h => h
  | cons b bs ih => exact fun r s h => checkByte_left_injective b (ih h)

/-- R2: bytes that differ in one place have different checks. -/
theorem frameCheck_set_ne {bs : List Byte} {k : Nat} {b : Byte} (hk : k < bs.length)
    (hb : bs[k] ≠ b) : frameCheck (bs.set k b) ≠ frameCheck bs := by
  have hsplit : bs = bs.take k ++ bs[k] :: bs.drop (k + 1) := by simp
  intro h
  rw [List.set_eq_take_append_cons_drop, if_pos hk] at h
  nth_rewrite 3 [hsplit] at h
  simp only [frameCheck, List.foldl_append, List.foldl_cons] at h
  exact hb (checkByte_right_injective _ (foldl_checkByte_injective _ h)).symm

/-! ## Fields of one and two bytes -/

theorem field_one (p : List Byte) (off : Nat) : field p off 1 = (p.getD off 0).toNat := by
  by_cases h : off < p.length
  · have hd : (p.drop off).take 1 = [p[off]] := by
      rw [List.drop_eq_getElem_cons h]; rfl
    simp [field, hd, readBytes, List.getD, h]
  · have hd : p.drop off = [] := by simpa using h
    simp [field, hd, readBytes, List.getD, List.getElem?_eq_none (Nat.not_lt.1 h)]

theorem byteAt_eq (p : List Byte) (off : Nat) : byteAt p off = p.getD off 0 := by
  simp [byteAt, field_one]

theorem field_append_two (xs : List Byte) (hi lo : Byte) :
    field (xs ++ [hi, lo]) xs.length 2 = hi.toNat * 256 + lo.toNat := by
  simp [field, readBytes]

/-- A word as the two bytes that carry it (R177). -/
theorem be_word (w : Word16) : be 2 w.toNat = [w.extractLsb' 8 8, w.extractLsb' 0 8] := by
  have hhi : BitVec.ofNat 8 (w.toNat / 256) = w.extractLsb' 8 8 := by
    apply BitVec.eq_of_toNat_eq
    simp [BitVec.extractLsb'_toNat, Nat.shiftRight_eq_div_pow]
  have hlo : BitVec.ofNat 8 w.toNat = w.extractLsb' 0 8 := by
    apply BitVec.eq_of_toNat_eq
    simp [BitVec.extractLsb'_toNat]
  simp [be, hhi, hlo]

theorem be_word_injective {v w : Word16} (h : be 2 v.toNat = be 2 w.toNat) : v = w := by
  have hread := congrArg readBytes h
  have hv : v.toNat < 256 ^ 2 := v.isLt
  have hw : w.toNat < 256 ^ 2 := w.isLt
  rw [readBytes_be, readBytes_be, Nat.mod_eq_of_lt hv, Nat.mod_eq_of_lt hw] at hread
  exact BitVec.eq_of_toNat_eq hread

/-- Two bytes read as a word and written again. -/
theorem be_of_bytes (hi lo : Byte) :
    be 2 (BitVec.ofNat 16 (hi.toNat * 256 + lo.toNat)).toNat = [hi, lo] := by
  have h1 := hi.isLt
  have h2 := lo.isLt
  have hword : (BitVec.ofNat 16 (hi.toNat * 256 + lo.toNat)).toNat = hi.toNat * 256 + lo.toNat := by
    rw [BitVec.toNat_ofNat]; omega
  have hhi : BitVec.ofNat 8 ((hi.toNat * 256 + lo.toNat) / 256) = hi := by
    apply BitVec.eq_of_toNat_eq; rw [BitVec.toNat_ofNat]; omega
  have hlo : BitVec.ofNat 8 (hi.toNat * 256 + lo.toNat) = lo := by
    apply BitVec.eq_of_toNat_eq; rw [BitVec.toNat_ofNat]; omega
  rw [hword]
  simp [be, hhi, hlo]

/-! ## The layout of a run -/

/-- Section 12.1: the six header bytes, the payload and the two check bytes. -/
def layout (dest source cls seq len flags : Byte) (payload : List Byte) (hi lo : Byte) : List Byte :=
  [dest, source, cls, seq, len, flags] ++ payload ++ [hi, lo]

/-- R1: a run of 8 bytes more than its length field says has the layout of section 12.1. -/
theorem exists_layout {run : List Byte} (h : run.length = 8 + (run.getD 4 0).toNat) :
    ∃ dest source cls seq len flags payload hi lo, payload.length = len.toNat ∧
      run = layout dest source cls seq len flags payload hi lo := by
  match run, h with
  | dest :: source :: cls :: seq :: len :: flags :: rest, h =>
    have hrest : rest.length = len.toNat + 2 := by
      simp [List.getD] at h; omega
    obtain ⟨hi, lo, hcheck⟩ := List.length_eq_two.1
      (show (rest.drop len.toNat).length = 2 by simp [hrest])
    refine ⟨dest, source, cls, seq, len, flags, rest.take len.toNat, hi, lo, by simp [hrest], ?_⟩
    simp [layout, ← hcheck]
  | [], h => simp [List.getD] at h
  | [_], h => simp [List.getD] at h
  | [_, _], h => simp [List.getD] at h
  | [_, _, _], h => simp [List.getD] at h
  | [_, _, _, _], h => simp [List.getD] at h
  | [_, _, _, _, _], h => simp [List.getD] at h; omega

/-- R1: what the receiver makes of a run in that layout. -/
theorem parseFrame_layout {dest source cls seq len flags hi lo : Byte} {payload : List Byte}
    (hlen : payload.length = len.toNat) :
    parseFrame (layout dest source cls seq len flags payload hi lo) =
      let f : Frame := { dest := dest, source := source, cls := cls, seq := seq, flags := flags,
                         payload := payload,
                         check := BitVec.ofNat 16 (hi.toNat * 256 + lo.toNat) }
      if 56 < len.toNat then none else if frameCheck f.covered = f.check then some f else none := by
  have hlength : (layout dest source cls seq len flags payload hi lo).length = 8 + len.toNat := by
    simp [layout, hlen]; omega
  have hfield : field (layout dest source cls seq len flags payload hi lo) 4 1 = len.toNat := by
    simp [field_one, layout]
  have hpayload : ((layout dest source cls seq len flags payload hi lo).drop 6).take len.toNat =
      payload := by
    simp [layout, ← hlen]
  have hcheck : field (layout dest source cls seq len flags payload hi lo) (6 + len.toNat) 2 =
      hi.toNat * 256 + lo.toNat := by
    have hoff : 6 + len.toNat = ([dest, source, cls, seq, len, flags] ++ payload).length := by
      simp [hlen]; omega
    rw [hoff]
    exact field_append_two _ _ _
  unfold parseFrame
  simp only [hlength, hfield, hpayload, hcheck, byteAt_eq]
  rw [if_neg (by omega), if_neg (by omega)]
  rfl

/-- R1: a run of another length than its length field gives is discarded. -/
theorem parseFrame_of_length {run : List Byte} (h : run.length ≠ 8 + (run.getD 4 0).toNat) :
    parseFrame run = none := by
  simp only [parseFrame, field_one, if_pos h, ite_self]

theorem Frame.bytes_eq_layout (f : Frame) :
    f.bytes = layout f.dest f.source f.cls f.seq (BitVec.ofNat 8 f.payload.length) f.flags f.payload
      (f.check.extractLsb' 8 8) (f.check.extractLsb' 0 8) := by
  rw [Frame.bytes, be_word]; rfl

/-- R1, R2: the receiver takes a run for a frame exactly when the run is the frame's bytes, its
payload is at most 56 bytes and its check its own. -/
theorem parseFrame_eq_some {run : List Byte} {f : Frame} : parseFrame run = some f ↔
    f.bytes = run ∧ f.payload.length ≤ 56 ∧ f.check = frameCheck f.covered := by
  constructor
  · intro h
    by_cases hrun : run.length = 8 + (run.getD 4 0).toNat
    · obtain ⟨dest, source, cls, seq, len, flags, payload, hi, lo, hlen, rfl⟩ := exists_layout hrun
      rw [parseFrame_layout hlen] at h
      dsimp only at h
      split at h
      · cases h
      · rename_i h56
        split at h
        · rename_i hcheck
          cases h
          refine ⟨?_, by simpa [hlen] using h56, hcheck.symm⟩
          simp only [Frame.bytes, Frame.covered, be_of_bytes, hlen]
          simp [layout]
        · cases h
    · rw [parseFrame_of_length hrun] at h
      cases h
  · rintro ⟨rfl, h56, hcheck⟩
    have hlen : f.payload.length = (BitVec.ofNat 8 f.payload.length).toNat := by
      rw [BitVec.toNat_ofNat]; omega
    have hword : BitVec.ofNat 16 ((f.check.extractLsb' 8 8).toNat * 256 +
        (f.check.extractLsb' 0 8).toNat) = f.check := by
      have hw := f.check.isLt
      apply BitVec.eq_of_toNat_eq
      simp [BitVec.extractLsb'_toNat, Nat.shiftRight_eq_div_pow]
      omega
    rw [Frame.bytes_eq_layout, parseFrame_layout hlen]
    dsimp only
    rw [if_neg (by omega), hword, if_pos hcheck.symm]

/-- Settles O4: a run of the layout of section 12.1 is parsed field by field, and each field is
written back as it was read. -/
theorem frameRoundTrip : Obligations.FrameRoundTrip := by
  refine ⟨⟨rfl, fun bs b => ?_⟩, fun f => ⟨rfl, ?_⟩, fun f h56 hcheck => ?_, fun run f h => ?_⟩
  · exact (frameCheck_concat bs b).trans (checkByte_eq_foldl _ _)
  · rw [Frame.bytes, be_word]
  · exact parseFrame_eq_some.2 ⟨rfl, h56, hcheck⟩
  · exact parseFrame_eq_some.1 h

/-! ## A changed byte -/

theorem Frame.bytes_length (f : Frame) : f.bytes.length = f.covered.length + 2 := by
  simp [Frame.bytes]

/-- Settles O5: a changed byte before the check changes the check, and a changed check byte leaves the
bytes it covers. -/
theorem changedByteRejected : Obligations.ChangedByteRejected := by
  intro run f k b hf hk hb
  obtain ⟨rfl, -, hfcheck⟩ := parseFrame_eq_some.1 hf
  by_contra hne
  obtain ⟨g, hg⟩ := Option.ne_none_iff_exists'.1 hne
  obtain ⟨hbytes, -, hgcheck⟩ := parseFrame_eq_some.1 hg
  have hlength : g.covered.length = f.covered.length := by
    have := congrArg List.length hbytes
    rw [List.length_set, Frame.bytes_length, Frame.bytes_length] at this
    omega
  rw [List.getD_eq_getElem _ _ hk] at hb
  by_cases hcovered : k < f.covered.length
  · have hset : g.bytes = f.covered.set k b ++ be 2 f.check.toNat := by
      rw [hbytes, Frame.bytes, List.set_append_left _ _ hcovered]
    obtain ⟨hcov, hcheck⟩ := List.append_inj hset (by simpa using hlength)
    have hsame : g.check = f.check := be_word_injective hcheck
    refine frameCheck_set_ne hcovered (b := b) ?_ ?_
    · simpa [Frame.bytes, List.getElem_append_left hcovered] using hb
    · rw [← hcov, ← hgcheck, hsame, hfcheck]
  · have hset : g.bytes = f.covered ++ (be 2 f.check.toNat).set (k - f.covered.length) b := by
      rw [hbytes, Frame.bytes, List.set_append_right _ _ (Nat.not_lt.1 hcovered)]
    obtain ⟨hcov, -⟩ := List.append_inj hset hlength
    have hsame : g.bytes = f.bytes := by
      rw [Frame.bytes, Frame.bytes, hgcheck, hfcheck, hcov]
    refine hb ?_
    have := congrArg (fun l => l[k]?) (hbytes.symm.trans hsame)
    simpa [hk, eq_comm] using this

end Sys2Proof.Machine
end

section
/-! The ports (R6, R10 to R14, R175 to R177): discarded and forwarded runs, admissions, reports and
their payloads, and the end of a transmission. -/

set_option Elab.async false

namespace Sys2Proof.Machine

/-! ## Transmitters -/

/-- R11: the aft transmitter, freed, begins the waiting COMMAND frame, else the head of its queue. -/
theorem Ports.aftKick_free (node : Byte) (p : Ports) :
    Ports.aftKick node { p with aftTx := none } = match p.waiting, p.aftQueue with
      | some w, _ => { p with aftTx := some (w.frame node), waiting := none }
      | none, f :: rest => { p with aftTx := some f, aftQueue := rest }
      | none, [] => { p with aftTx := none } := by
  obtain ⟨aftTx, foreTx, aftSeq, foreSeq, aftQueue, foreQueue, waiting, reservation⟩ := p
  cases waiting with
  | some w => rfl
  | none => cases aftQueue <;> rfl

/-- R13: the fore transmitter, freed, begins the head of its queue. -/
theorem Ports.foreKick_free (p : Ports) :
    Ports.foreKick { p with foreTx := none } = match p.foreQueue with
      | f :: rest => { p with foreTx := some f, foreQueue := rest }
      | [] => { p with foreTx := none } := by
  obtain ⟨aftTx, foreTx, aftSeq, foreSeq, aftQueue, foreQueue, waiting, reservation⟩ := p
  cases foreQueue <;> rfl

/-- Settles O9: the end of a frame frees the transmitter, which then begins its next candidate. -/
theorem transmitEndBeginsNext : Obligations.TransmitEndBeginsNext := by
  intro s hrun
  constructor
  · rw [exec_event (f := unlessReset aftEnd) rfl, unlessReset_running hrun, aftEnd]
    cases s.ports.aftTx with
    | none => rfl
    | some x =>
      dsimp only
      rw [Ports.aftKick_free]
      cases s.ports.waiting with
      | some w => rfl
      | none => cases s.ports.aftQueue <;> rfl
  · rw [exec_event (f := unlessReset foreEnd) rfl, unlessReset_running hrun, foreEnd]
    cases s.ports.foreTx with
    | none => rfl
    | some x =>
      dsimp only
      rw [Ports.foreKick_free]
      cases s.ports.foreQueue <;> rfl

/-! ## Admissions -/

/-- R12: the free places of the fore-bound queue. -/
theorem Ports.foreFree_eq (p : Ports) :
    p.foreFree = 16 - (p.foreQueue.length + (if p.reservation = true then 1 else 0)) :=
  Nat.sub_sub _ _ _

/-- R12, R13: a frame admitted to the fore-bound queue joins its tail, and the head begins at a free
transmitter. -/
theorem Ports.foreAdmit_eq (p : Ports) (f : Frame) :
    p.foreAdmit f = match p.foreTx, p.foreQueue with
      | some _, queue => { p with foreQueue := queue ++ [f] }
      | none, [] => { p with foreTx := some f }
      | none, x :: rest => { p with foreTx := some x, foreQueue := rest ++ [f] } := by
  obtain ⟨aftTx, foreTx, aftSeq, foreSeq, aftQueue, foreQueue, waiting, reservation⟩ := p
  cases foreTx with
  | some x => rfl
  | none => cases foreQueue <;> rfl

/-- R10, R11: a frame admitted to the aft-bound queue joins its tail, and the arbiter begins its next
candidate at a free transmitter. -/
theorem Ports.aftAdmit_eq (node : Byte) (p : Ports) (f : Frame) :
    p.aftAdmit node f = match p.aftTx, p.waiting, p.aftQueue with
      | some _, _, queue => { p with aftQueue := queue ++ [f] }
      | none, some w, queue =>
        { p with aftTx := some (w.frame node), waiting := none, aftQueue := queue ++ [f] }
      | none, none, [] => { p with aftTx := some f }
      | none, none, x :: rest => { p with aftTx := some x, aftQueue := rest ++ [f] } := by
  obtain ⟨aftTx, foreTx, aftSeq, foreSeq, aftQueue, foreQueue, waiting, reservation⟩ := p
  cases aftTx with
  | some x => rfl
  | none =>
    cases waiting with
    | some w => rfl
    | none => cases aftQueue <;> rfl

/-! ## Received runs -/

theorem exec_portFrameReceived {port : Port} {run : List Byte} {s : State}
    (hrun : s.pins.coldReset = false) :
    exec (.portFrameReceived port run) s = .next (receiveRun port run s) := by
  rw [exec_event (f := unlessReset (receiveRun port run)) rfl, unlessReset_running hrun]

theorem receiveRun_of_none {port : Port} {run : List Byte} {s : State}
    (h : parseFrame run = none) : receiveRun port run s = countCheckError port s := by
  simp [receiveRun, h]

theorem receiveRun_of_some {port : Port} {run : List Byte} {f : Frame} {s : State}
    (h : parseFrame run = some f) : receiveRun port run s = intakeFrame port f s := by
  simp [receiveRun, h]

theorem Frame.bytes_length_eq (f : Frame) : f.bytes.length = 8 + f.payload.length := by
  simp [Frame.bytes, Frame.covered]; omega

/-- Section 12.1: the fifth byte of a frame's run gives the length of its payload. -/
theorem Frame.bytes_lengthByte {f : Frame} (h : f.payload.length ≤ 56) :
    (f.bytes.getD 4 0).toNat = f.payload.length := by
  simp [Frame.bytes, Frame.covered, List.getD]; omega

/-- R2: the check covers all but the last two bytes of a frame's run. -/
theorem Frame.bytes_take (f : Frame) : f.bytes.take (f.bytes.length - 2) = f.covered := by
  simp [Frame.bytes]

/-- Section 12.1: the last two bytes of a frame's run carry its check. -/
theorem Frame.bytes_check (f : Frame) :
    (f.bytes.getD (f.bytes.length - 2) 0).toNat * 256 +
      (f.bytes.getD (f.bytes.length - 1) 0).toNat = f.check.toNat := by
  have hw := f.check.isLt
  have hhi : f.bytes.getD (f.bytes.length - 2) 0 = f.check.extractLsb' 8 8 := by
    simp [Frame.bytes, be_word, List.getD]
  have hlo : f.bytes.getD (f.bytes.length - 1) 0 = f.check.extractLsb' 0 8 := by
    simp [Frame.bytes, be_word, List.getD]
  rw [hhi, hlo]
  simp [BitVec.extractLsb'_toNat, Nat.shiftRight_eq_div_pow]
  omega

/-- R1: the four ways in which a run is no frame. -/
theorem parseFrame_of_bad {run : List Byte}
    (h : run.length < 8 ∨ run.length ≠ 8 + (run.getD 4 0).toNat ∨ 56 < (run.getD 4 0).toNat ∨
      (frameCheck (run.take (run.length - 2))).toNat ≠
        (run.getD (run.length - 2) 0).toNat * 256 + (run.getD (run.length - 1) 0).toNat) :
    parseFrame run = none := by
  by_contra hne
  obtain ⟨f, hf⟩ := Option.ne_none_iff_exists'.1 hne
  obtain ⟨rfl, h56, hcheck⟩ := parseFrame_eq_some.1 hf
  rw [f.bytes_take, f.bytes_check, ← hcheck, Frame.bytes_lengthByte h56, f.bytes_length_eq] at h
  omega

/-- R6 cases 2, 3 and 5: a frame that no block takes is forwarded. -/
theorem intakeFrame_passesThrough {port : Port} {run : List Byte} {f : Frame} {s : State}
    (h : PassesThrough s run f) : intakeFrame port f s = forward port f s := by
  obtain ⟨-, hcase⟩ := h
  unfold intakeFrame
  split
  · rename_i hrequest
    rw [if_neg]
    rcases hcase with hcls | ⟨-, hdest⟩ | ⟨hcls, -⟩
    · rw [hrequest] at hcls
      exact absurd hcls (by decide)
    · exact hdest
    · exact absurd hrequest hcls
  · rename_i hrequest
    split
    · rfl
    · rename_i hother
      rcases hcase with hcls | ⟨hcls, -⟩ | ⟨-, hmatch⟩
      · exact absurd (by simpa using hcls) hother
      · exact absurd hcls hrequest
      · rw [hmatch]

/-! ## Reports -/

/-- An absent code is 0 (R177). -/
theorem orZero_eq {α : Type} (f : α → Nat) (x : Option α) : orZero f x = (x.map f).getD 0 := by
  cases x <;> rfl

/-- A byte is the field of one byte that carries it. -/
theorem singleton_eq_be (b : Byte) : [b] = be 1 b.toNat := by
  simp [be]

theorem beInt_zero (w : Nat) : beInt w 0 = be w 0 := by
  simp [beInt]

theorem orZero_channelCode (x : Option Channel) :
    orZero channelCode x = if x = some .q then 1 else 0 := by
  cases x with
  | none => rfl
  | some y => cases y <;> rfl

theorem serialCode_eq (n : Option Nat) : serialCode n = n.getD 0 := by
  cases n <;> rfl

/-- Settles O3: a bad run is none the receiver takes for a frame; a frame under case 2, 3 or 5 reaches
`forward`; admissions, reports and their payloads by the cases of their definitions. -/
theorem framesDiscardedOrForwarded : Obligations.FramesDiscardedOrForwarded := by
  refine ⟨fun port run s hrun hbad => ?_, fun port run f s hrun hpass => ?_,
    fun port f s => by cases port <;> rfl, fun _ => rfl,
    fun p f node => ⟨p.foreFree_eq, p.foreAdmit_eq f, p.aftAdmit_eq node f⟩, fun _ _ _ _ _ => rfl,
    fun _ _ => rfl, fun r s => ⟨fun hfree => if_pos hfree, fun hfull => if_neg (by omega)⟩,
    fun r => ?_⟩
  · rw [exec_portFrameReceived hrun, receiveRun_of_none (parseFrame_of_bad hbad)]
    cases port <;> rfl
  · rw [exec_portFrameReceived hrun, receiveRun_of_some hpass.1, intakeFrame_passesThrough hpass]
    cases port <;> rfl
  · cases r with
    | state => rfl
    | safeCheck target item position detail => cases position <;> rfl
    | sensor => simp only [Report.payload, orZero_channelCode]
    | odometry event st inputCell jump =>
      cases jump with
      | none => simp [Report.payload, beInt_zero]
      | some x => simp [Report.payload]
    | marker => simp only [Report.payload, singleton_eq_be]
    | attention => simp [Report.payload, RegimeEntry.bytes, singleton_eq_be]
    | attentionEnd => rfl
    | route => simp only [Report.payload, orZero_eq]
    | car => rfl
    | capture event source c serial concerned before newest missed =>
      cases concerned with
      | none =>
        simp only [Report.payload, orZero_eq, serialCode_eq, Option.map_none, Option.getD_none,
          beInt_zero, List.append_assoc]
        rfl
      | some x =>
        simp only [Report.payload, orZero_eq, serialCode_eq, Option.map_some,
          Option.getD_some, List.append_assoc]
        rfl

end Sys2Proof.Machine
end

section
/-! The intake (R6 to R9, R170): which entry a frame matches, the sequence test, the handling of a
matched frame and the standing of a request. -/

set_option Elab.async false

namespace Sys2Proof.Machine

/-! ## Searching the intake table -/

theorem intakeIndexes_sorted : intakeIndexes.Pairwise (· < ·) := by decide

/-- R6 case 4: an index holds an entry of this source and class. -/
def EntryFits (t : Vector IntakeSlot 16) (source cls : Byte) (j : Fin 16) : Prop :=
  ∃ x ∈ t[j].entry, x.source = source ∧ x.cls = cls

/-- What the search of R6 case 4 finds at one index. -/
def entryFor (t : Vector IntakeSlot 16) (source cls : Byte) (j : Fin 16) :
    Option (Fin 16 × IntakeEntry) :=
  (t[j].entry.filter (fun x => decide (x.source = source ∧ x.cls = cls))).map (fun x => (j, x))

theorem matching_eq (t : Vector IntakeSlot 16) (source cls : Byte) :
    matching t source cls = intakeIndexes.findSome? (entryFor t source cls) := by
  unfold matching
  congr 1
  funext j
  unfold entryFor
  cases t[j].entry with
  | none => rfl
  | some x =>
    by_cases h : x.source = source ∧ x.cls = cls
    · simp [h]
    · simpa [h] using not_and.1 h

theorem entryFor_eq_none {t : Vector IntakeSlot 16} {source cls : Byte} {j : Fin 16} :
    entryFor t source cls j = none ↔ ¬EntryFits t source cls j := by
  simp [entryFor, EntryFits]

theorem entryFor_eq_some {t : Vector IntakeSlot 16} {source cls : Byte} {j i : Fin 16}
    {e : IntakeEntry} : entryFor t source cls j = some (i, e) ↔
      j = i ∧ t[j].entry = some e ∧ EntryFits t source cls j := by
  simp only [entryFor, EntryFits, Option.map_eq_some_iff, Option.filter_eq_some_iff, Prod.mk.injEq,
    decide_eq_true_eq, Option.mem_def]
  constructor
  · rintro ⟨x, ⟨hx, hfits⟩, hj, rfl⟩
    exact ⟨hj, hx, x, hx, hfits⟩
  · rintro ⟨hj, he, x, hx, hfits⟩
    cases he.symm.trans hx
    exact ⟨e, ⟨he, hfits⟩, hj, rfl⟩

theorem matching_eq_none {t : Vector IntakeSlot 16} {source cls : Byte} :
    matching t source cls = none ↔ ∀ j, ¬EntryFits t source cls j := by
  simp only [matching_eq, List.findSome?_eq_none_iff, mem_intakeIndexes, true_implies,
    entryFor_eq_none]

/-- R6 case 4: the entry that matches is the first that fits. -/
theorem matching_eq_some {t : Vector IntakeSlot 16} {source cls : Byte} {i : Fin 16}
    {e : IntakeEntry} : matching t source cls = some (i, e) ↔
      t[i].entry = some e ∧ EntryFits t source cls i ∧ ∀ j, j < i → ¬EntryFits t source cls j := by
  rw [matching_eq, List.findSome?_eq_some_iff]
  constructor
  · rintro ⟨before, j, after, hsplit, hj, hnone⟩
    obtain ⟨rfl, hentry, hfits⟩ := entryFor_eq_some.1 hj
    refine ⟨hentry, hfits, fun k hk => entryFor_eq_none.1 (hnone k ?_)⟩
    have hmem := mem_intakeIndexes k
    have hsorted := intakeIndexes_sorted
    rw [hsplit] at hmem hsorted
    obtain ⟨-, hafter, -⟩ := List.pairwise_append.1 hsorted
    rcases List.mem_append.1 hmem with h | h
    · exact h
    · rcases List.mem_cons.1 h with rfl | h
      · exact absurd hk (lt_irrefl _)
      · exact absurd ((List.pairwise_cons.1 hafter).1 k h) (lt_asymm hk)
  · rintro ⟨hentry, hfits, hfirst⟩
    obtain ⟨before, after, hsplit⟩ := List.append_of_mem (mem_intakeIndexes i)
    refine ⟨before, i, after, hsplit, entryFor_eq_some.2 ⟨rfl, hentry, hfits⟩, fun k hk => ?_⟩
    have hsorted := intakeIndexes_sorted
    rw [hsplit] at hsorted
    obtain ⟨-, -, hbefore⟩ := List.pairwise_append.1 hsorted
    exact entryFor_eq_none.2 (hfirst k (hbefore k hk i (by simp)))

/-! ## The sequence test -/

theorem seqTest_duplicate {memory : Option Byte} {seq : Byte} :
    seqTest memory seq = .duplicate ↔ memory = some seq := by
  unfold seqTest
  cases memory with
  | none => simp
  | some m =>
    dsimp only
    split
    · rename_i h; simp [h]
    · rename_i h
      split <;> simp [Ne.symm h]

/-- R8: a gap is a number that neither repeats the last nor follows it. -/
theorem seqTest_gap {memory : Option Byte} {seq : Byte} (hnew : memory ≠ some seq) :
    seqTest memory seq = .gap ↔ ∃ m ∈ memory, seq ≠ m + 1 := by
  unfold seqTest
  cases memory with
  | none => simp
  | some m =>
    have hm : seq ≠ m := fun h => hnew (by rw [h])
    by_cases hnext : seq = m + 1 <;> simp [hm, hnext]

/-- R8: the state after an accepted frame's sequence test: its number in the memory, a gap counted. -/
def afterSeq (i : Fin 16) (seq : Byte) (s : State) : State :=
  (s.setIntake (s.intake.set i { s.intake[i] with memory := some seq })).setCounters
    (if ∃ m ∈ s.intake[i].memory, seq ≠ m + 1 then
      { s.counters with seqGaps := bump s.counters.seqGaps } else s.counters)

theorem acceptSeq_eq {i : Fin 16} {seq : Byte} {s : State} (hnew : s.intake[i].memory ≠ some seq) :
    acceptSeq i seq (seqTest s.intake[i].memory seq) s = afterSeq i seq s := by
  unfold acceptSeq afterSeq
  simp only [seqTest_gap hnew]
  split <;> rfl

/-! ## A matched frame -/

theorem intakeFrame_matches {port : Port} {run : List Byte} {f : Frame} {i : Fin 16}
    {e : IntakeEntry} {s : State} (h : Matches s run f i e) :
    intakeFrame port f s = matchedFrame i e port f s := by
  obtain ⟨-, hcls, hmatch⟩ := h
  simp only [List.mem_cons, List.not_mem_nil, or_false, not_or] at hcls
  obtain ⟨hrequest, hcommand, hreply, hreport⟩ := hcls
  unfold intakeFrame
  rw [if_neg hrequest, if_neg (by simp [hcommand, hreply, hreport]), hmatch]

theorem matchedFrame_duplicate {i : Fin 16} {e : IntakeEntry} {port : Port} {f : Frame} {s : State}
    (h : s.intake[i].memory = some f.seq) : matchedFrame i e port f s = s := by
  unfold matchedFrame
  rw [seqTest_duplicate.2 h]

theorem matchedFrame_new {i : Fin 16} {e : IntakeEntry} {port : Port} {f : Frame} {s : State}
    (h : s.intake[i].memory ≠ some f.seq) :
    matchedFrame i e port f s = handOver e port f (afterSeq i f.seq s) := by
  unfold matchedFrame
  split
  · rename_i hdup
    exact absurd (seqTest_duplicate.1 hdup) h
  · rw [acceptSeq_eq h]

theorem handOver_kept {e : IntakeEntry} (port : Port) (f : Frame) (s : State)
    (h : e.forward = false) : handOver e port f s = deliver e.role f.payload s := by
  simp [handOver, h]

theorem handOver_aftward {e : IntakeEntry} (f : Frame) (s : State) (h : e.forward = true) :
    handOver e .fore f s = forward .fore f (deliver e.role f.payload s) := by
  simp [handOver, h]

/-- R12: of a copy that travels fore and the block's reports either may be judged first. -/
theorem handOver_foreward {e : IntakeEntry} (f : Frame) (s : State) (h : e.forward = true) :
    let v := s.setBook { s.book with choices := s.book.choices + 1 }
    handOver e .aft f s = forward .aft f (deliver e.role f.payload s) ∨
    handOver e .aft f s = forward .aft f (deliver e.role f.payload v) ∨
    handOver e .aft f s = deliver e.role f.payload (forward .aft f v) := by
  simp only [handOver, h, if_true]
  split
  · exact .inl rfl
  · split
    · exact .inr (.inr rfl)
    · exact .inr (.inl rfl)

/-- Settles O6: the search, the sequence test and the handing over, each by its own lemma. -/
theorem matchedFrameHandled : Obligations.MatchedFrameHandled := by
  refine ⟨fun t source cls => ⟨matching_eq_none, fun i e => matching_eq_some⟩,
    fun port run f i e s hrun hmatch => ⟨fun hdup => ?_, fun hnew =>
      ⟨handOver e port f (afterSeq i f.seq s), ?_, ?_⟩⟩⟩
  · rw [exec_portFrameReceived hrun, receiveRun_of_some hmatch.1, intakeFrame_matches hmatch,
      matchedFrame_duplicate hdup]
  · rw [exec_portFrameReceived hrun, receiveRun_of_some hmatch.1, intakeFrame_matches hmatch,
      matchedFrame_new hnew]
  · refine ⟨fun h => handOver_kept port f _ h, fun h hport => ?_, fun h hport => ?_⟩
    · subst hport
      exact handOver_aftward f _ h
    · subst hport
      exact handOver_foreward f _ h

/-! ## The standing of a request -/

theorem hasManager_eq_true {t : Vector IntakeSlot 16} :
    hasManager t = true ↔ ∃ (j : Fin 16), ∃ x ∈ t[j].entry, x.role = .manager := by
  simp only [hasManager, List.any_eq_true, mem_intakeIndexes, true_and]
  refine exists_congr fun j => ?_
  cases t[j].entry with
  | none => simp
  | some x => simp

/-- R9: an index holds the MANAGER entry of this source. -/
def Manages (t : Vector IntakeSlot 16) (source : Byte) (j : Fin 16) : Prop :=
  ∃ x ∈ t[j].entry, x.role = .manager ∧ x.source = source

theorem any_manager_iff {t : Vector IntakeSlot 16} {source : Byte} {j : Fin 16} :
    t[j].entry.any (fun x => decide (x.role = .manager ∧ x.source = source)) = true ↔
      Manages t source j := by
  simp [Manages, Option.any_eq_true]

theorem managerEntry_eq (t : Vector IntakeSlot 16) (source : Byte) :
    managerEntry t source = intakeIndexes.find? (fun j => t[j].entry.any
      (fun x => decide (x.role = .manager ∧ x.source = source))) := by
  unfold managerEntry
  congr 1
  funext j
  cases t[j].entry <;> rfl

theorem managerEntry_eq_none {t : Vector IntakeSlot 16} {source : Byte}
    (h : ∀ j, ¬Manages t source j) : managerEntry t source = none := by
  rw [managerEntry_eq, List.find?_eq_none]
  intro j _
  exact fun hany => h j (any_manager_iff.1 hany)

theorem managerEntry_eq_some {t : Vector IntakeSlot 16} {source : Byte} {i : Fin 16}
    (hi : Manages t source i) (honly : ∀ j, Manages t source j → j = i) :
    managerEntry t source = some i := by
  cases hfind : managerEntry t source with
  | none =>
    rw [managerEntry_eq, List.find?_eq_none] at hfind
    exact absurd (any_manager_iff.2 hi) (hfind i (mem_intakeIndexes i))
  | some j =>
    rw [managerEntry_eq] at hfind
    have hj := List.find?_some hfind
    rw [honly j (any_manager_iff.1 hj)]

theorem intakeFrame_request {port : Port} {f : Frame} {s : State} (hcls : f.cls = clsRequest)
    (hdest : f.dest = s.nodeAddress) : intakeFrame port f s = acceptRequest f s := by
  unfold intakeFrame
  rw [if_pos hcls, if_pos hdest]

/-- R9: with no MANAGER entry every request is accepted. -/
theorem acceptRequest_unmanaged {f : Frame} {s : State} (h : hasManager s.intake = false) :
    acceptRequest f s = queueRequest f true s := by
  simp [acceptRequest, h]

/-- R9: a request whose source is no MANAGER entry's is denied. -/
theorem acceptRequest_denied {f : Frame} {s : State} (h : hasManager s.intake = true)
    (hnone : managerEntry s.intake f.source = none) :
    acceptRequest f s = queueRequest f false s := by
  simp [acceptRequest, h, hnone]

/-- R8, R9: a request of a MANAGER entry's source takes that entry's sequence test. -/
theorem acceptRequest_managed {f : Frame} {s : State} {i : Fin 16} (h : hasManager s.intake = true)
    (hsome : managerEntry s.intake f.source = some i) :
    acceptRequest f s = if s.intake[i].memory = some f.seq then s
      else queueRequest f true (afterSeq i f.seq s) := by
  simp only [acceptRequest, h, hsome, if_true]
  split
  · rename_i hdup
    rw [if_pos (seqTest_duplicate.1 hdup)]
  · rename_i hnew
    have hmemory : s.intake[i].memory ≠ some f.seq := fun hm => hnew (seqTest_duplicate.2 hm)
    rw [if_neg hmemory, acceptSeq_eq hmemory]

/-- Settles O7: the standing by the MANAGER entries, the queue by `queueRequest`. -/
theorem requestStanding : Obligations.RequestStanding := by
  intro port run f s hrun hparse hcls hdest
  rw [exec_portFrameReceived hrun, receiveRun_of_some hparse, intakeFrame_request hcls hdest]
  refine ⟨fun hnone => ?_, fun hmanager hother => ?_, fun i hi honly => ?_⟩
  · rw [acceptRequest_unmanaged]
    · rfl
    · rw [← Bool.not_eq_true, hasManager_eq_true]
      rintro ⟨j, x, hx, hrole⟩
      exact hnone j x hx hrole
  · rw [acceptRequest_denied (hasManager_eq_true.2 hmanager) (managerEntry_eq_none ?_)]
    · rfl
    · rintro j ⟨x, hx, hrole, hsource⟩
      exact hother j x hx hrole hsource
  · obtain ⟨x, hx, hrole, hsource⟩ := hi
    have haccept := acceptRequest_managed (f := f) (hasManager_eq_true.2 ⟨i, x, hx, hrole⟩)
      (managerEntry_eq_some ⟨x, hx, hrole, hsource⟩
        (fun j ⟨y, hy, h⟩ => honly j y hy h))
    refine ⟨fun hdup => ?_, fun hnew => ?_⟩
    · rw [haccept, if_pos hdup]
    · rw [haccept, if_neg hnew]
      rfl

end Sys2Proof.Machine
end

section
/-! Set Intake Entry (R5), and the requests that reach no block with the reply frame of every request
(R169, R171, R172). -/

set_option Elab.async false

namespace Sys2Proof.Machine

/-! ## Set Intake Entry -/

/-- R178: the fields of Set Intake Entry that are read are defined. -/
def IntakeFieldsDefined (p : List Byte) : Prop :=
  field p 1 1 = 0 ∨ field p 1 1 = 1 ∧ field p 4 1 ≤ 5 ∧ field p 5 1 ≤ 1

theorem actSetIntakeEntry_undefined {p : List Byte} (s : State) (h : ¬IntakeFieldsDefined p) :
    actSetIntakeEntry p s = refuse .format s := by
  unfold IntakeFieldsDefined at h
  unfold actSetIntakeEntry
  by_cases hpresent : 1 < field p 1 1
  · rw [readBool_none hpresent]
  · have hone : field p 1 1 = 1 := by omega
    rw [hone]
    by_cases hrole : 5 < field p 4 1
    · rw [readRole_none hrole]; rfl
    · rw [readBool_none (show 1 < field p 5 1 by omega)]
      cases readRole (field p 4 1) <;> rfl

theorem actSetIntakeEntry_empty {p : List Byte} (s : State) (h : field p 1 1 = 0) :
    actSetIntakeEntry p s = judgeIntake (field p 0 1) none s := by
  unfold actSetIntakeEntry
  rw [h]; rfl

/-- The entry that Set Intake Entry carries (section 12.3). -/
def carriedEntry (p : List Byte) (role : Role) (fwd : Bool) : IntakeEntry :=
  { source := BitVec.ofNat 8 (field p 2 1), cls := BitVec.ofNat 8 (field p 3 1), role := role,
    forward := fwd }

theorem actSetIntakeEntry_entry {p : List Byte} {role : Role} {fwd : Bool} (s : State)
    (h : field p 1 1 = 1) (hrole : field p 4 1 = role.code) (hfwd : field p 5 1 = boolCode fwd) :
    actSetIntakeEntry p s = judgeIntake (field p 0 1) (some (carriedEntry p role fwd)) s := by
  unfold actSetIntakeEntry
  rw [h, hrole, hfwd, readRole_code, readBool_code]; rfl

/-- R178: with its read fields defined, Set Intake Entry comes to the tests of R5. -/
theorem actSetIntakeEntry_defined {p : List Byte} (s : State) (h : IntakeFieldsDefined p) :
    ∃ e, actSetIntakeEntry p s = judgeIntake (field p 0 1) e s := by
  rcases h with hempty | ⟨hpresent, hrole, hfwd⟩
  · exact ⟨none, actSetIntakeEntry_empty s hempty⟩
  · obtain ⟨role, -, hrole⟩ := readRole_some hrole
    obtain ⟨fwd, -, hfwd⟩ := readBool_some hfwd
    exact ⟨_, actSetIntakeEntry_entry s hpresent hrole hfwd⟩

theorem judgeIntake_notSafe (index : Nat) (e : Option IntakeEntry) {s : State}
    (h : s.executor.opState ≠ .safe) : judgeIntake index e s = refuse .wrongState s := by
  unfold judgeIntake
  rw [if_pos h]

theorem judgeIntake_range {index : Nat} (e : Option IntakeEntry) {s : State}
    (h : s.executor.opState = .safe) (hindex : 15 < index) :
    judgeIntake index e s = refuse .range s := by
  unfold judgeIntake
  rw [if_neg (not_not.2 h), readFin_none hindex]

theorem judgeIntake_none (i : Fin 16) {s : State} (h : s.executor.opState = .safe) :
    judgeIntake i.val none s = done (writeIntake i none s) := by
  unfold judgeIntake
  rw [if_neg (not_not.2 h), readFin_val]

theorem judgeIntake_some (i : Fin 16) (x : IntakeEntry) {s : State}
    (h : s.executor.opState = .safe) : judgeIntake i.val (some x) s =
      if entryClash s.intake i x then refuse .format s else done (writeIntake i (some x) s) := by
  unfold judgeIntake
  rw [if_neg (not_not.2 h), readFin_val]

theorem Role.single_iff (role : Role) :
    role.single = true ↔ role ∈ [Role.sensorP, Role.sensorQ, Role.odometry] := by
  cases role <;> decide

/-- R5 test 3, as the refusal states it. -/
theorem entryClash_eq_true {t : Vector IntakeSlot 16} {i : Fin 16} {e : IntakeEntry} :
    entryClash t i e = true ↔ e.cls ≠ e.role.cls ∨ ∃ j : Fin 16, j ≠ i ∧ ∃ x ∈ t[j].entry,
      x.source = e.source ∧ x.cls = e.cls ∨
      x.role = e.role ∧ e.role ∈ [Role.sensorP, Role.sensorQ, Role.odometry] := by
  simp only [entryClash, Bool.or_eq_true, decide_eq_true_eq, List.any_eq_true, mem_intakeIndexes,
    true_and, Bool.and_eq_true, Option.any_eq_true, Option.mem_def, ← Role.single_iff,
    and_comm (a := e.role.single = true)]

/-- Settles O39: the fields first, then the tests of R5 in order, then the index written. -/
theorem setIntakeEntryOutcomes : Obligations.SetIntakeEntryOutcomes := by
  intro s r rest hserves p refused written defined
  have hrefused : ∀ c, actSetIntakeEntry p (s.taken rest) = refuse c (s.taken rest) → refused c :=
    fun c h => congrArg _ (serve_answers hserves h)
  have hwritten : ∀ i e, actSetIntakeEntry p (s.taken rest) = done (writeIntake i e (s.taken rest)) →
      written i e := fun i e h => congrArg _ (serve_changes hserves h rfl rfl)
  refine ⟨fun h => hrefused _ (actSetIntakeEntry_undefined _ h), fun h hop => ?_,
    fun h hop hindex => ?_, fun i hindex hop => ⟨fun hempty => ?_, ?_⟩⟩
  · obtain ⟨e, hact⟩ := actSetIntakeEntry_defined (s.taken rest) h
    exact hrefused _ (hact.trans (judgeIntake_notSafe _ _ hop))
  · obtain ⟨e, hact⟩ := actSetIntakeEntry_defined (s.taken rest) h
    exact hrefused _ (hact.trans (judgeIntake_range _ hop hindex))
  · refine hwritten i none ?_
    rw [actSetIntakeEntry_empty _ hempty, hindex]
    exact judgeIntake_none i hop
  · intro role fwd hpresent hrole hfwd e roleCls clash
    have hact : actSetIntakeEntry p (s.taken rest) =
        if entryClash s.intake i e then refuse .format (s.taken rest)
        else done (writeIntake i (some e) (s.taken rest)) := by
      rw [actSetIntakeEntry_entry _ hpresent hrole hfwd, hindex]
      exact judgeIntake_some i e hop
    have hcls : roleCls = role.cls := by cases role <;> rfl
    have hclash : entryClash s.intake i e = true ↔ clash := by
      rw [entryClash_eq_true]
      simp only [clash, hcls]
      rfl
    refine ⟨fun h => hrefused _ ?_, fun h => hwritten i (some e) ?_⟩
    · rw [hact, if_pos (hclash.2 h)]
    · rw [hact, if_neg (fun h' => h (hclash.1 h'))]

/-! ## Requests that reach no block -/

/-- R172 case 3, section 12.3: the codes above the index name no request. -/
theorem ofCode_none {code : Nat} (h : code = 0 ∨ 0x15 < code) : RequestName.ofCode code = none := by
  unfold RequestName.ofCode
  split <;> first | rfl | omega

/-- R169: the code and the tag echoed, 0 for each byte that is not present. -/
theorem echoed_bytes (bytes : List Byte) :
    (bytes ++ [0, 0, 0]).take 3 = [bytes.getD 0 0, bytes.getD 1 0, bytes.getD 2 0] := by
  match bytes with
  | [] => rfl
  | [_] => rfl
  | [_, _] => rfl
  | _ :: _ :: _ :: _ => simp

theorem serveWarmRestart_none {s : State}
    (h : ∀ r rest, Heads s r rest → r.name ≠ some .warmRestart) : serveWarmRestart s = s := by
  simp [serveWarmRestart, takeRequest_none h]

theorem serveWarmRestart_denied {s : State} {r : Request} {rest : List Request} (h : Heads s r rest)
    (hn : r.name = some .warmRestart) (ha : r.accepted = false) :
    serveWarmRestart s = s.answered r rest (.bare .denied) := by
  simp only [serveWarmRestart, takeRequest_heads h hn, ha, Bool.not_false, if_true]
  exact placeReply_taken h _

theorem serveWarmRestart_format {s : State} {r : Request} {rest : List Request} (h : Heads s r rest)
    (hn : r.name = some .warmRestart) (ha : r.accepted = true)
    (hl : lengthFits .warmRestart r.payload = false) :
    serveWarmRestart s = s.answered r rest (.bare .format) := by
  simp only [serveWarmRestart, takeRequest_heads h hn, ha, hl, Bool.not_false, Bool.not_true,
    if_true, Bool.false_eq_true, if_false]
  exact placeReply_taken h _

/-- Only Warm Restart is performed by the executor itself. -/
theorem act_eq_none {name : RequestName} (h : name.act = none) : name = .warmRestart := by
  cases name <;> first | rfl | cases h

theorem served_none {name : RequestName} {s : State}
    (h : ∀ r rest, Heads s r rest → r.name ≠ some name) : name.served s = s := by
  unfold RequestName.served
  split
  · exact serve_none h
  · rename_i hact
    cases act_eq_none hact
    exact serveWarmRestart_none h

/-- R172 case 1. -/
theorem served_denied {name : RequestName} {s : State} {r : Request} {rest : List Request}
    (h : Heads s r rest) (hn : r.name = some name) (ha : r.accepted = false) :
    name.served s = s.answered r rest (.bare .denied) := by
  unfold RequestName.served
  split
  · exact serve_denied h hn ha
  · rename_i hact
    cases act_eq_none hact
    exact serveWarmRestart_denied h hn ha

/-- R172 case 4. -/
theorem served_format {name : RequestName} {s : State} {r : Request} {rest : List Request}
    (h : Heads s r rest) (hn : r.name = some name) (ha : r.accepted = true)
    (hl : lengthFits name r.payload = false) :
    name.served s = s.answered r rest (.bare .format) := by
  unfold RequestName.served
  split
  · exact serve_format h hn ha hl
  · rename_i hact
    cases act_eq_none hact
    exact serveWarmRestart_format h hn ha hl

theorem serveUnknown_none {s : State} (h : ∀ r rest, Heads s r rest → r.name ≠ none) :
    serveUnknown s = s := by
  simp [serveUnknown, takeRequest_none h]

theorem serveUnknown_heads {s : State} {r : Request} {rest : List Request} (h : Heads s r rest)
    (hn : r.name = none) : serveUnknown s = s.answered r rest (unknownReply r) := by
  simp only [serveUnknown, takeRequest_heads h hn]
  exact placeReply_taken h _

/-- R172 cases 1 to 3. -/
theorem unknownReply_eq (r : Request) : unknownReply r = .bare (if r.accepted = false then .denied
    else if r.envelope.length < 3 then .format else .unknown) := by
  unfold unknownReply
  by_cases ha : r.accepted = false
  · simp [ha]
  · by_cases hlength : r.envelope.length < 3
    · simp [ha, hlength]
    · simp [ha, hlength]

/-- Settles O49: the index by its codes, and a request refused before its block by its standing, its
envelope or its length. -/
theorem requestsRefusedBeforeOwner : Obligations.RequestsRefusedBeforeOwner := by
  refine ⟨fun r code hcode => ?_, fun p => ⟨?_, ?_⟩, rfl, fun r a s => ⟨?_, rfl, fun rest h => ?_⟩,
    fun s => ⟨fun name r rest h hn => ⟨fun ha => ?_, fun ha hl => ?_⟩, fun r rest h hn => ?_,
      fun name h => ?_, fun h => ?_⟩⟩
  · unfold Request.name
    split
    · rfl
    · rw [hcode]
      by_cases hrange : code = 0 ∨ 0x15 < code
      · rw [ofCode_none hrange, if_neg (by omega), eq_comm, Option.map_eq_none_iff,
          List.find?_eq_none]
        simp only [List.mem_cons, List.not_mem_nil, or_false, forall_eq_or_imp, forall_eq,
          decide_eq_true_eq]
        omega
      · obtain ⟨hlow, hhigh⟩ : 1 ≤ code ∧ code ≤ 0x15 := by omega
        interval_cases code <;> rfl
  · simp [lengthFits]
  · simp [lengthFits, and_assoc]
  · simp only [replyFrame, replyPayload, echoed_bytes]; rfl
  · exact (placeReply_taken h a).symm
  · rw [exec_command, served_denied h hn ha]
  · rw [exec_command, served_format h hn ha hl]
  · rw [exec_event (f := serveUnknown) rfl, serveUnknown_heads h hn, unknownReply_eq]
  · rw [exec_command, served_none h]
  · rw [exec_event (f := serveUnknown) rfl, serveUnknown_none h]

end Sys2Proof.Machine
end

section
/-! What keeps a condition on the odometry record alone, or on the sensor monitor alone: no event
and no request reaches either block but through the frames delivered to it, its own timeout and a
restart. -/

set_option Elab.async false

namespace Sys2Proof.Machine

/-- The fields that the delivered frames and the supervision timeouts alone change. -/
abbrev inputFields : List Field := [.odo, .sensor]

/-- A condition that speaks of one field of State alone. -/
def Field.Decides (f : Field) (P : State → Prop) : Prop := ∀ s t, f.same s t → P s → P t

/-- A condition on an input field that holds after a reset, and that the operations which reach the
field keep. -/
structure InputInvariant (f : Field) (P : State → Prop) : Prop where
  input : f ∈ inputFields
  decides : f.Decides P
  reset : P .reset
  deliver : ∀ role p s, P s → P (deliver role p s)
  odometryExpiry : ∀ s, P s → P (odometryExpiry s)
  channelExpiry : ∀ x s, P s → P (channelExpiry x s)
  restart : ∀ s, P (restartBlocks s)

/-- Two states agree on an input field where they agree on both. -/
theorem same_of_input {f : Field} {s t : State} (hf : f ∈ inputFields) (hodo : t.odo = s.odo)
    (hsensor : t.sensor = s.sensor) : f.same s t := by
  simp only [List.mem_cons, List.not_mem_nil, or_false] at hf
  rcases hf with rfl | rfl
  · exact hodo
  · exact hsensor

section
variable {f : Field} {P : State → Prop}

theorem InputInvariant.of_frame (h : InputInvariant f P) {fs : List Field} {s t : State} (hs : P s)
    (hframe : SameBut fs s t) (hout : ∀ g ∈ inputFields, g ∉ fs := by decide) : P t :=
  h.decides s t (hframe f (hout f h.input)) hs

/-- R7: the frame delivered and its copy forwarded, in either order. -/
theorem InputInvariant.handOver (h : InputInvariant f P) (e : IntakeEntry) (port : Port) (x : Frame)
    {s : State} (hs : P s) : P (handOver e port x s) := by
  have hforward : ∀ t, P t → P (forward port x t) :=
    fun t ht => h.of_frame ht (forward_frame port x t)
  have hbook : P (s.setBook { s.book with choices := s.book.choices + 1 }) :=
    h.of_frame hs (setBook_frame _ _)
  unfold Machine.handOver
  dsimp only
  split
  · split
    · exact hforward _ (h.deliver _ _ _ hs)
    · split
      · exact h.deliver _ _ _ (hforward _ hbook)
      · exact hforward _ (h.deliver _ _ _ hbook)
  · exact h.deliver _ _ _ hs

/-- R1, R6: a frame reaches an input field through the entry that it matches, or not at all. -/
theorem InputInvariant.receiveRun (h : InputInvariant f P) (port : Port) (run : List Byte)
    {s : State} (hs : P s) : P (receiveRun port run s) := by
  have hforward : ∀ x, P (forward port x s) := fun x => h.of_frame hs (forward_frame port x s)
  unfold Machine.receiveRun
  split
  · cases port <;> exact h.of_frame hs (setCounters_frame _ _)
  · unfold intakeFrame
    split
    · split
      · exact h.of_frame hs (acceptRequest_frame _ _)
      · exact hforward _
    · split
      · exact hforward _
      · split
        · unfold matchedFrame
          split
          · exact hs
          · exact h.handOver _ _ _ (h.of_frame hs (acceptSeq_frame _ _ _ _))
        · exact hforward _

/-- R159: the release of the cold-reset pin sets the input blocks as `State.reset` has them. -/
theorem InputInvariant.releaseReset (h : InputInvariant f P) (straps : Byte) (s : State) :
    P (releaseReset straps s) :=
  h.decides State.reset _ (same_of_input h.input rfl rfl) h.reset

theorem InputInvariant.event (h : InputInvariant f P) {c : Instr} {g : State → State}
    (hg : eventOf c = some g) {s : State} (hs : P s) : P (g s) := by
  cases c <;> cases hg
  case coldResetAssert => exact h.of_frame hs (assertReset_frame s)
  case coldResetRelease straps => exact h.releaseReset straps s
  case portFrameReceived port run => exact unlessReset_keeps (h.receiveRun port run hs) hs
  case aftTransmitEnd => exact unlessReset_keeps (h.of_frame hs (aftEnd_frame s)) hs
  case foreTransmitEnd => exact unlessReset_keeps (h.of_frame hs (foreEnd_frame s)) hs
  case odometryTimeout => exact unlessReset_keeps (h.odometryExpiry s hs) hs
  case channelTimeout x => exact unlessReset_keeps (h.channelExpiry x s hs) hs
  case commandTimerExpiry => exact unlessReset_keeps (h.of_frame hs (commandExpiry_frame s)) hs
  case attentionTimerExpiry => exact unlessReset_keeps (h.of_frame hs (attentionExpiry_frame s)) hs
  case unknownRequest =>
    exact serveUnknown_keeps hs (fun _ rest _ => h.of_frame hs (taken_frame s rest))
      fun r a u hu => h.of_frame hu (placeReply_frame r a u)

/-- No owning block of a request changes an input field: only Warm Restart does, by itself. -/
theorem InputInvariant.act (h : InputInvariant f P) {name : RequestName}
    {act : List Byte → State → Reply × State} (hact : name.act = some act) (p : List Byte)
    {s : State} (hs : P s) : P (act p s).2 := by
  refine h.of_frame hs (act_frame hact p s) ?_
  have hname : name ≠ .warmRestart := fun e => by subst e; cases hact
  revert hname
  cases name <;> decide

theorem InputInvariant.served (h : InputInvariant f P) (name : RequestName) {s : State} (hs : P s) :
    P (name.served s) :=
  served_keeps (Q := P) hs (fun _ rest _ => h.of_frame hs (taken_frame s rest))
    (fun r a u hu => h.of_frame hu (placeReply_frame r a u))
    (fun r u hu => h.of_frame hu (restartQueues_frame r u)) (fun u _ => h.restart u)
    (fun _ _ hact p _ hu => h.act hact p hu) name

theorem InputInvariant.step (h : InputInvariant f P) {s t : State} (hstep : step s = .next t)
    (hs : P s) : P t :=
  step_keeps (fun s _ hq => h.decides s _ (same_of_input h.input rfl rfl) hq)
    (fun _ _ _ hg ht => h.event hg ht) (fun name _ ht => h.served name ht) hstep hs

end

/-! ## The restart -/

theorem restartBlocks_sensor (s : State) : (restartBlocks s).sensor = .reset :=
  lineClear_frame _ _ .sensor (by decide)

theorem restartBlocks_odo (s : State) : (restartBlocks s).odo = .reset :=
  lineClear_frame _ _ .odo (by decide)

end Sys2Proof.Machine
end

section
/-! The odometry unit: what each operation makes of the odometry record (R20 to R30), and the record
sound after every step. -/

set_option Elab.async false

namespace Sys2Proof.Machine

/-! ## The operations and the odometry record -/

@[simp] theorem offerReport_odo (r : Report) (s : State) : (offerReport r s).odo = s.odo :=
  offerReport_frame r s .odo (by decide)

@[simp] theorem advance_odo (k : Nat) (own : State → Option Report) (s : State) :
    (advance k own s).odo = s.odo := advance_frame k own s .odo (by decide)

@[simp] theorem lineClear_odo (own : Option Report) (s : State) : (lineClear own s).odo = s.odo :=
  lineClear_frame own s .odo (by decide)

@[simp] theorem setSpeed_odo (v : Nat) (s : State) :
    (setSpeed v s).odo = { s.odo with speed := min v 400 } := rfl

@[simp] theorem setReference_odo (d : Distance) (v : Nat) (s : State) : (setReference d v s).odo =
    { s.odo with state := .tracking, lastDistance := d, remainder := 0, debt := 0,
                 speed := min v 400, timeout := some 100 } := rfl

@[simp] theorem slip_odo (s : State) :
    (slip s).odo = { s.odo with uncertain := true, recovery := 0 } := by
  unfold slip
  split
  · rfl
  · exact offerReport_odo _ _

theorem recover_odo_certain (k : Nat) {s : State} (h : s.odo.uncertain = false) :
    (recover k s).odo = s.odo := by
  simp [recover, h]

/-- R29: the recovery count below 200 goes on; at 200 it ends with the condition. -/
theorem recover_odo_uncertain (k : Nat) {s : State} (h : s.odo.uncertain = true) :
    (recover k s).odo =
      if 200 ≤ s.odo.recovery + k then { s.odo with uncertain := false, recovery := 0 }
      else { s.odo with recovery := s.odo.recovery + k } := by
  simp only [recover, h, if_true]
  split <;> simp

/-- R23, R25, R26, R27: a step backwards by more than 32 m, a smaller one, and a step forwards. -/
theorem takeDelta_odo (delta : Int) (s : State) : (takeDelta delta s).odo =
    if delta < -3200 then { s.odo with remainder := 0, debt := 0 }
    else if delta < 0 then { s.odo with debt := min (s.odo.debt + (-delta).toNat) 65535 }
    else { s.odo with
      debt := (forwardStep delta.toNat s.odo.debt s.odo.remainder).debt
      remainder := (forwardStep delta.toNat s.odo.debt s.odo.remainder).remainder } := by
  unfold takeDelta
  split
  · simp
  · split
    · rfl
    · dsimp only
      split <;> simp

/-- R22: steps 1 to 4 leave the position-uncertain condition to step 5. -/
theorem takeDelta_uncertain (delta : Int) (s : State) :
    (takeDelta delta s).odo.uncertain = s.odo.uncertain ∧
    (takeDelta delta s).odo.recovery = s.odo.recovery := by
  rw [takeDelta_odo]
  split
  · exact ⟨rfl, rfl⟩
  · split <;> exact ⟨rfl, rfl⟩

/-! ## The forward step -/

/-- R27: more than 64 cells of new ground are clamped to 64, and the remainder is dropped. -/
theorem forwardStep_clamped {delta debt remainder : Nat} (h : 3250 ≤ remainder + (delta - debt)) :
    forwardStep delta debt remainder =
      { debt := debt - delta, remainder := 0, cells := 64, clamped := true } := by
  have hpaid : delta - min delta debt = delta - debt := by omega
  have hleft : debt - min delta debt = debt - delta := by omega
  simp only [forwardStep, hpaid, hleft]
  exact if_pos (by omega)

/-- R27: up to 64 cells, new ground is whole cells and the remainder. -/
theorem forwardStep_whole {delta debt remainder : Nat} (h : remainder + (delta - debt) < 3250) :
    forwardStep delta debt remainder =
      { debt := debt - delta, remainder := (remainder + (delta - debt)) % 50,
        cells := (remainder + (delta - debt)) / 50, clamped := false } := by
  have hpaid : delta - min delta debt = delta - debt := by omega
  have hleft : debt - min delta debt = debt - delta := by omega
  simp only [forwardStep, hpaid, hleft]
  exact if_neg (by omega)

theorem forwardStep_debt (delta debt remainder : Nat) :
    (forwardStep delta debt remainder).debt = debt - delta := by
  rcases le_or_gt 3250 (remainder + (delta - debt)) with h | h
  · rw [forwardStep_clamped h]
  · rw [forwardStep_whole h]

theorem forwardStep_remainder (delta debt remainder : Nat) :
    (forwardStep delta debt remainder).remainder < 50 := by
  rcases le_or_gt 3250 (remainder + (delta - debt)) with h | h
  · simp [forwardStep_clamped h]
  · rw [forwardStep_whole h]
    exact Nat.mod_lt _ (by decide)

/-- Settles O10: the two cases of the clamp, at 3250 cm of remainder and new ground. -/
theorem forwardStepAccounts : Obligations.ForwardStepAccounts := by
  intro delta debt remainder hremainder
  dsimp only
  by_cases h : 3250 ≤ remainder + (delta - debt)
  · rw [forwardStep_clamped h]
    simp [h]
  · rw [forwardStep_whole (by omega)]
    simp only [Bool.false_eq_true, false_iff, false_implies, true_implies, and_true, true_and]
    omega

/-! ## The odometry record sound -/

/-- R18 to R30: the odometry record. -/
structure Odometry.Sound (o : Odometry) : Prop where
  timeout : o.state = .tracking ↔ o.timeout.isSome = true
  remainder : o.remainder < 50
  debt : o.debt ≤ 65535
  speed : o.speed ≤ 400
  recovery : o.recovery < 200
  certain : o.uncertain = false → o.recovery = 0

theorem odometrySound_iff (s : State) : OdometrySound s ↔ s.odo.Sound :=
  ⟨fun ⟨htimeout, hremainder, hdebt, hspeed, hrecovery, hcertain⟩ =>
      ⟨htimeout, hremainder, hdebt, hspeed, hrecovery, hcertain⟩,
    fun h => ⟨h.timeout, h.remainder, h.debt, h.speed, h.recovery, h.certain⟩⟩

theorem odometrySound_decides : Field.odo.Decides (fun s => s.odo.Sound) :=
  fun _ _ hsame => (congrArg Odometry.Sound hsame).mpr

theorem Odometry.reset_sound : Odometry.reset.Sound where
  timeout := by decide
  remainder := by decide
  debt := by decide
  speed := by decide
  recovery := by decide
  certain := fun _ => rfl

theorem slip_sound {s : State} (h : s.odo.Sound) : (slip s).odo.Sound := by
  rw [slip_odo]
  exact { h with recovery := by simp, certain := fun _ => rfl }

theorem recover_sound (k : Nat) {s : State} (h : s.odo.Sound) : (recover k s).odo.Sound := by
  cases hu : s.odo.uncertain with
  | false => rwa [recover_odo_certain k hu]
  | true =>
    rw [recover_odo_uncertain k hu]
    split
    · exact { h with recovery := by simp, certain := fun _ => rfl }
    · rename_i hbelow
      exact { h with recovery := by simpa using hbelow, certain := fun hc => by simp [hu] at hc }

theorem setReference_sound (d : Distance) (v : Nat) {s : State} (h : s.odo.Sound) :
    (setReference d v s).odo.Sound where
  timeout := by simp
  remainder := by simp
  debt := by simp
  speed := by simp
  recovery := h.recovery
  certain := h.certain

theorem takeDelta_sound (delta : Int) {s : State} (h : s.odo.Sound) :
    (takeDelta delta s).odo.Sound := by
  rw [takeDelta_odo]
  split
  · exact { h with remainder := by simp, debt := by simp }
  · split
    · exact { h with debt := by simp }
    · refine { h with remainder := forwardStep_remainder _ _ _, debt := ?_ }
      have hdebt := h.debt
      dsimp only
      rw [forwardStep_debt]
      omega

theorem takeOdometry_sound (d : Distance) (v : Nat) (slipped : Bool) {s : State} (h : s.odo.Sound) :
    (takeOdometry d v slipped s).odo.Sound := by
  have hslip : ∀ {t}, t.odo.Sound → (if slipped then slip t else t).odo.Sound := fun ht => by
    split
    · exact slip_sound ht
    · exact ht
  unfold takeOdometry
  split
  case h_1 => exact hslip (setReference_sound d v h)
  case h_2 htracking =>
    unfold takeTracking
    dsimp only
    have hstep := takeDelta_sound (counterDiff d (setSpeed v s).odo.lastDistance)
      (s := (setSpeed v s).setOdo
        { (setSpeed v s).odo with timeout := some 100, lastDistance := d })
      { h with timeout := by simp [htracking], speed := by simp }
    split
    · exact slip_sound hstep
    · exact recover_sound _ hstep
  case h_3 => exact hslip (setReference_sound d v (by rwa [lineClear_odo]))

theorem odometryExpiry_sound {s : State} (h : s.odo.Sound) : (odometryExpiry s).odo.Sound := by
  unfold odometryExpiry
  split
  · rw [offerReport_odo]
    exact { h with timeout := by simp, speed := by simp }
  · exact h

theorem deliver_odo_sound (role : Role) (p : List Byte) {s : State} (h : s.odo.Sound) :
    (deliver role p s).odo.Sound := by
  have hother : ∀ {fs t}, SameBut fs s t → Field.odo ∉ fs → t.odo.Sound :=
    fun hframe hout => odometrySound_decides _ _ (hframe .odo hout) h
  cases role with
  | sensorP => exact hother (handleSensor_frame .p p s) (by decide)
  | sensorQ => exact hother (handleSensor_frame .q p s) (by decide)
  | odometry =>
    change (handleOdometry p s).odo.Sound
    unfold handleOdometry
    split
    · exact h
    · split
      · exact takeOdometry_sound _ _ _ h
      · split
        · exact takeOdometry_sound _ _ _ h
        · exact h
  | markerReader => exact hother (handleMarker_frame p s) (by decide)
  | unitStatus => exact hother (handleUnitStatus_frame p s) (by decide)
  | manager => exact h

theorem odometrySound_invariant : InputInvariant .odo (fun s => s.odo.Sound) where
  input := by decide
  decides := odometrySound_decides
  reset := Odometry.reset_sound
  deliver := fun role p _ h => deliver_odo_sound role p h
  odometryExpiry := fun _ h => odometryExpiry_sound h
  channelExpiry := fun x s => odometrySound_decides _ _ (channelExpiry_frame x s .odo (by decide))
  restart := fun s => (congrArg Odometry.Sound (restartBlocks_odo s)).mpr Odometry.reset_sound

end Sys2Proof.Machine
end

section
/-! The sensor monitor: what each operation makes of its record (R36 to R47), and the record sound
after every step. -/

set_option Elab.async false

namespace Sys2Proof.Machine

/-! ## The operations and the sensor monitor -/

theorem Channel.eq_or_other (x y : Channel) : y = x ∨ y = otherChannel x := by
  cases x <;> cases y <;> simp [otherChannel]

theorem otherChannel_ne (x : Channel) : otherChannel x ≠ x := by cases x <;> decide

theorem singleOf_inj {x y : Channel} (h : singleOf x = singleOf y) : x = y := by
  cases x <;> cases y <;> first | rfl | cases h

theorem singleOf_ne_none (x : Channel) : singleOf x ≠ .none := by cases x <;> decide

theorem singleOf_ne_both (x : Channel) : ¬(singleOf x = .dual ∨ singleOf x = .disagree) := by
  cases x <;> decide

theorem Sensor.setChan_of_ne (m : Sensor) {x y : Channel} (r : ChannelRecord) (h : y ≠ x) :
    (m.setChan x r).chan y = m.chan y := by
  rcases Channel.eq_or_other x y with rfl | rfl
  · exact absurd rfl h
  · exact m.setChan_other x r

/-- A channel record replaced leaves the pair record as it was. -/
theorem Sensor.setChan_pairRecord (m : Sensor) (x : Channel) (r : ChannelRecord) :
    (m.setChan x r).pairState = m.pairState ∧ (m.setChan x r).window = m.window ∧
    (m.setChan x r).disagreeRun = m.disagreeRun ∧ (m.setChan x r).agreeRun = m.agreeRun := by
  cases x <;> exact ⟨rfl, rfl, rfl, rfl⟩

/-- The pair record replaced leaves the channel records as they were. -/
@[simp] theorem Sensor.chan_mk (m : Sensor) (p : PairState) (w : List Pair) (d a : Nat)
    (y : Channel) :
    Sensor.chan { m with pairState := p, window := w, disagreeRun := d, agreeRun := a } y =
      m.chan y := by
  cases y <;> rfl

theorem reportPair_sensor (b : PairState) (c : SensorCause) (ch : Option Channel) (d : Nat)
    (s : State) : (reportPair b c ch d s).sensor = s.sensor :=
  reportPair_frame b c ch d s .sensor (by decide)

theorem loseChannel_sensor (x : Channel) (c : SensorCause) (s : State) :
    (loseChannel x c s).sensor = s.sensor.loseChannel x := reportPair_sensor _ _ _ _ _

theorem deliverSample_sensor (value : Int) (q : SampleQuality) (s : State) :
    (deliverSample value q s).sensor = s.sensor := deliverSample_frame value q s .sensor (by decide)

/-- R36: steps 1 and 2, then step 3, then step 5, which alone reach the sensor monitor. -/
theorem takeSample_sensor (x : Channel) (v : Sample) (s : State) : (takeSample x v s).sensor =
    let m := s.sensor.settleChannel x
    (m.tryPair x s.profile.threshold (m.pairing x v)).storeLatest x v (m.pairing x v).isSome := by
  unfold takeSample
  simp only [State.setSensor_sensor]
  split
  · simp only [deliverSample_sensor, reportPair_sensor, State.setSensor_sensor]
  · simp only [reportPair_sensor, State.setSensor_sensor]

/-! ## The operations of the pair record and the channel records -/

/-- R45 to R47: the judging changes the pair state and the runs alone. -/
theorem Sensor.judge_pairRecord (m : Sensor) (t sum : Nat) : ∃ p d a,
    m.judge t sum = { m with pairState := p, disagreeRun := d, agreeRun := a } := by
  unfold Sensor.judge
  repeat' split
  all_goals exact ⟨_, _, _, rfl⟩

theorem Sensor.judge_chan (m : Sensor) (t sum : Nat) (x : Channel) :
    (m.judge t sum).chan x = m.chan x := by
  obtain ⟨p, d, a, e⟩ := m.judge_pairRecord t sum
  rw [e, Sensor.chan_mk]

/-- R42: the pairing marks the other channel's record, never the frame's own. -/
theorem Sensor.tryPair_chan (m : Sensor) (x : Channel) (t : Nat) (pr : Option Pair) :
    (m.tryPair x t pr).chan x = m.chan x := by
  unfold Sensor.tryPair
  split
  · unfold Sensor.addPair
    dsimp only
    have hown : x ≠ otherChannel x := (otherChannel_ne x).symm
    split
    · rw [Sensor.judge_chan, Sensor.chan_mk, m.setChan_of_ne _ hown]
    · rw [Sensor.chan_mk, m.setChan_of_ne _ hown]
  · rfl

/-- R42: a pair forms only between two GOOD channels. -/
theorem Sensor.pairing_good {m : Sensor} {x : Channel} {v : Sample} {pr : Pair}
    (h : m.pairing x v = some pr) (y : Channel) : (m.chan y).state = .good := by
  unfold Sensor.pairing at h
  dsimp only at h
  split at h
  · rename_i hgood
    obtain ⟨hown, hother, -⟩ := hgood
    rcases Channel.eq_or_other x y with rfl | rfl
    · exact hown
    · exact hother
  · cases h

/-- R37: an OK frame leaves its channel SETTLING or GOOD. -/
theorem ChannelRecord.takeOk_ne_absent (r : ChannelRecord) : r.takeOk.state ≠ .absent := by
  unfold ChannelRecord.takeOk
  split
  · simp
  · rename_i hr
    split <;> simp [hr]
  · rename_i hr
    simp [hr]

/-- R38, R39: a GOOD channel stays GOOD on an OK frame. -/
theorem ChannelRecord.takeOk_good {r : ChannelRecord} (h : r.state = .good) :
    r.takeOk.state = .good := by
  simp [ChannelRecord.takeOk, h]

theorem ChannelRecord.reset_sound : ChannelSound .reset :=
  ⟨fun _ => rfl, by decide, by decide⟩

theorem ChannelRecord.takeOk_sound {r : ChannelRecord} (h : ChannelSound r) :
    ChannelSound r.takeOk := by
  obtain ⟨habsent, hsettling, hgood⟩ := h
  unfold ChannelRecord.takeOk
  split
  · rename_i hr
    rw [habsent hr]
    simp [ChannelSound, ChannelRecord.reset]
  · rename_i hr
    obtain ⟨-, -, -, hpaired⟩ := hsettling hr
    split
    · simp [ChannelSound]
    · rename_i hbelow
      exact ⟨fun ha => absurd (hr.symm.trans ha) (by decide),
        fun _ => ⟨Nat.le_add_left 1 _, not_le.1 hbelow, rfl, hpaired⟩,
        fun hg => absurd (hr.symm.trans hg) (by decide)⟩
  · rename_i hr
    simp [ChannelSound, hr, hgood hr]

/-! ## The sensor monitor sound -/

/-- R42 to R47 and R37 to R40 for either channel: the channel records and the pair record. -/
structure Sensor.Sound (m : Sensor) : Prop where
  channel : ∀ x, ChannelSound (m.chan x)
  window : m.window.length ≤ 4
  disagreeRun : m.disagreeRun < 3
  agreeRun : m.agreeRun < 16
  paired : m.window ≠ [] → ∀ x, (m.chan x).state = .good
  none : m.pairState = .none → ∀ x, (m.chan x).state ≠ .good
  single : ∀ x, m.pairState = singleOf x → (m.chan x).state = .good
  full : m.pairState = .dual ∨ m.pairState = .disagree → m.window.length = 4

theorem Channel.forall_iff {p : Channel → Prop} : (∀ x, p x) ↔ p .p ∧ p .q :=
  ⟨fun h => ⟨h .p, h .q⟩, fun ⟨hp, hq⟩ x => match x with
    | .p => hp
    | .q => hq⟩

theorem sensorSound_iff (s : State) : SensorSound s ↔ s.sensor.Sound := by
  constructor
  · rintro ⟨hp, hq, hwindow, hdisagree, hagree, hpaired, hnone, hsingleP, hsingleQ, hfull⟩
    exact ⟨Channel.forall_iff.2 ⟨hp, hq⟩, hwindow, hdisagree, hagree,
      fun h => Channel.forall_iff.2 (hpaired h), fun h => Channel.forall_iff.2 (hnone h),
      Channel.forall_iff.2 ⟨hsingleP, hsingleQ⟩, hfull⟩
  · intro h
    exact ⟨h.channel .p, h.channel .q, h.window, h.disagreeRun, h.agreeRun,
      fun hw => Channel.forall_iff.1 (h.paired hw), fun hn => Channel.forall_iff.1 (h.none hn),
      h.single .p, h.single .q, h.full⟩

theorem Sensor.reset_sound : Sensor.reset.Sound where
  channel := Channel.forall_iff.2 ⟨ChannelRecord.reset_sound, ChannelRecord.reset_sound⟩
  window := by decide
  disagreeRun := by decide
  agreeRun := by decide
  paired := fun h => absurd rfl h
  none := fun _ => Channel.forall_iff.2 (by decide)
  single := Channel.forall_iff.2 (by decide)
  full := by decide

/-- DUAL and DISAGREE are met only while both channels are GOOD. -/
theorem Sensor.Sound.both_good {m : Sensor} (h : m.Sound)
    (hp : m.pairState = .dual ∨ m.pairState = .disagree) (x : Channel) :
    (m.chan x).state = .good :=
  h.paired (fun hw => by simpa [hw] using h.full hp) x

/-- A sound record put in the place of one that is GOOD exactly when it is. -/
theorem Sensor.Sound.setChan {m : Sensor} {x : Channel} {r : ChannelRecord} (h : m.Sound)
    (hr : ChannelSound r) (hgood : r.state = .good ↔ (m.chan x).state = .good) :
    (m.setChan x r).Sound := by
  have hstate : ∀ y, ((m.setChan x r).chan y).state = .good ↔ (m.chan y).state = .good := by
    intro y
    by_cases hy : y = x
    · rw [hy, Sensor.setChan_same, hgood]
    · rw [m.setChan_of_ne r hy]
  obtain ⟨hpair, hwindow, hdisagree, hagree⟩ := m.setChan_pairRecord x r
  refine ⟨fun y => ?_, ?_, ?_, ?_, ?_, ?_, ?_, ?_⟩
  · by_cases hy : y = x
    · rw [hy, Sensor.setChan_same]
      exact hr
    · rw [m.setChan_of_ne r hy]
      exact h.channel y
  · rw [hwindow]; exact h.window
  · rw [hdisagree]; exact h.disagreeRun
  · rw [hagree]; exact h.agreeRun
  · rw [hwindow]; exact fun hw y => (hstate y).2 (h.paired hw y)
  · rw [hpair]; exact fun hn y hy => h.none hn y ((hstate y).1 hy)
  · rw [hpair]; exact fun y hy => (hstate y).2 (h.single y hy)
  · rw [hpair, hwindow]; exact h.full

/-- R44: a GOOD channel lost leaves SINGLE of the other one where that is GOOD, and NONE else. -/
theorem Sensor.Sound.pairLost_cases {m : Sensor} {x : Channel} (h : m.Sound)
    (hx : (m.chan x).state = .good) :
    let st := pairLost x (decide ((m.chan (otherChannel x)).state = .good)) m.pairState
    (st = singleOf (otherChannel x) ∧ (m.chan (otherChannel x)).state = .good) ∨
      (st = .none ∧ (m.chan (otherChannel x)).state ≠ .good) := by
  dsimp only
  unfold pairLost
  by_cases hsingle : m.pairState = singleOf x
  · by_cases hother : (m.chan (otherChannel x)).state = .good <;> simp [hsingle, hother]
  · rw [if_neg hsingle]
    by_cases hboth : m.pairState = .dual ∨ m.pairState = .disagree
    · exact .inl ⟨if_pos hboth, h.both_good hboth _⟩
    · rw [if_neg hboth]
      have hnone : m.pairState ≠ .none := fun hn => h.none hn x hx
      have hother : m.pairState = singleOf (otherChannel x) := by
        revert hsingle hboth hnone
        cases x <;> cases m.pairState <;> simp [singleOf, otherChannel]
      exact .inl ⟨hother, h.single _ hother⟩

/-- R40, R44: the loss of a channel. -/
theorem Sensor.Sound.loseChannel {m : Sensor} (h : m.Sound) (x : Channel) :
    (m.loseChannel x).Sound := by
  by_cases hx : (m.chan x).state = .good
  · simp only [Sensor.loseChannel, if_pos hx]
    have hlost := h.pairLost_cases hx
    dsimp only at hlost
    generalize pairLost x _ m.pairState = left at hlost
    refine ⟨fun y => ?_, ?_, ?_, ?_, ?_, fun hn y => ?_, fun y hy => ?_, fun hboth => ?_⟩
    · rw [Sensor.chan_mk]
      by_cases hy : y = x
      · rw [hy, Sensor.setChan_same]
        exact ChannelRecord.reset_sound
      · rw [m.setChan_of_ne _ hy]
        exact h.channel y
    · simp
    · simp
    · simp
    · exact fun hw => absurd rfl hw
    · rw [Sensor.chan_mk]
      rcases hlost with ⟨rfl, -⟩ | ⟨-, hother⟩
      · exact absurd hn (singleOf_ne_none _)
      · rcases Channel.eq_or_other x y with rfl | rfl
        · simp [ChannelRecord.reset]
        · rwa [Sensor.setChan_other]
    · rcases hlost with ⟨rfl, hother⟩ | ⟨rfl, -⟩
      · rw [← singleOf_inj hy, Sensor.chan_mk, Sensor.setChan_other]
        exact hother
      · exact absurd hy.symm (singleOf_ne_none y)
    · rcases hlost with ⟨rfl, -⟩ | ⟨rfl, -⟩
      · exact absurd hboth (singleOf_ne_both _)
      · simp at hboth
  · simp only [Sensor.loseChannel, if_neg hx]
    exact h.setChan ChannelRecord.reset_sound (by simp [ChannelRecord.reset, hx])

/-- R44: a channel gained gives SINGLE of it where the pair state was NONE, and leaves any other
pair state as it was. -/
theorem pairGained_cases (x : Channel) (st : PairState) :
    (st = .none ∧ pairGained x st = singleOf x) ∨ (st ≠ .none ∧ pairGained x st = st) := by
  by_cases h : st = .none
  · exact .inl ⟨h, if_pos h⟩
  · exact .inr ⟨h, if_neg h⟩

/-- R37 to R39, R44: an OK frame counted, and a channel that it makes GOOD gained. -/
theorem Sensor.Sound.settleChannel {m : Sensor} (h : m.Sound) (x : Channel) :
    (m.settleChannel x).Sound := by
  have hrecord := ChannelRecord.takeOk_sound (h.channel x)
  unfold Sensor.settleChannel
  dsimp only
  split
  · rename_i hgained
    obtain ⟨hbefore, hafter⟩ := hgained
    rw [Sensor.setChan_same] at hafter
    have hgood : ∀ y, (m.chan y).state = .good →
        ((m.setChan x (m.chan x).takeOk).chan y).state = .good := by
      intro y hy
      have hne : y ≠ x := by rintro rfl; exact hbefore hy
      rwa [m.setChan_of_ne _ hne]
    obtain ⟨-, hwindow, hdisagree, hagree⟩ := m.setChan_pairRecord x (m.chan x).takeOk
    refine ⟨fun y => ?_, ?_, ?_, ?_, fun hw => ?_, fun hn => ?_, fun y hy => ?_, fun hboth => ?_⟩
    · rw [Sensor.chan_mk]
      by_cases hy : y = x
      · rw [hy, Sensor.setChan_same]
        exact hrecord
      · rw [m.setChan_of_ne _ hy]
        exact h.channel y
    · rw [hwindow]; exact h.window
    · rw [hdisagree]; exact h.disagreeRun
    · rw [hagree]; exact h.agreeRun
    · rw [hwindow] at hw
      exact absurd (h.paired hw x) hbefore
    · rcases pairGained_cases x m.pairState with ⟨-, e⟩ | ⟨hne, e⟩
      · exact absurd (e.symm.trans hn) (singleOf_ne_none x)
      · exact absurd (e.symm.trans hn) hne
    · rw [Sensor.chan_mk]
      rcases pairGained_cases x m.pairState with ⟨-, e⟩ | ⟨-, e⟩
      · rw [← singleOf_inj (e.symm.trans hy), Sensor.setChan_same]
        exact hafter
      · exact hgood y (h.single y (e.symm.trans hy))
    · rcases pairGained_cases x m.pairState with ⟨-, e⟩ | ⟨-, e⟩
      · exact absurd (e ▸ hboth) (singleOf_ne_both x)
      · rw [hwindow]
        exact h.full (e ▸ hboth)
  · rename_i hsame
    rw [Sensor.setChan_same] at hsame
    exact h.setChan hrecord
      ⟨fun hafter => by_contra fun hbefore => hsame ⟨hbefore, hafter⟩, ChannelRecord.takeOk_good⟩

/-- A full window: DUAL and DISAGREE are sound with any runs in their ranges. -/
theorem Sensor.Sound.setFull {m : Sensor} (h : m.Sound) (hw : m.window.length = 4) {p : PairState}
    {d a : Nat} (hp : p = .dual ∨ p = .disagree) (hd : d < 3) (ha : a < 16) :
    Sensor.Sound { m with pairState := p, disagreeRun := d, agreeRun := a } where
  channel := fun y => by rw [Sensor.chan_mk]; exact h.channel y
  window := h.window
  disagreeRun := hd
  agreeRun := ha
  paired := fun hne y => by rw [Sensor.chan_mk]; exact h.paired hne y
  none := fun hn => by rcases hp with rfl | rfl <;> cases hn
  single := fun y hy => absurd (hy ▸ hp) (singleOf_ne_both y)
  full := fun _ => hw

/-- R45 to R47: a full window judged in each pair state. -/
theorem Sensor.Sound.judge {m : Sensor} (h : m.Sound) (hw : m.window.length = 4) (t d : Nat) :
    (m.judge t d).Sound := by
  have hagreed : Sensor.Sound { m with pairState := .dual, disagreeRun := 0, agreeRun := 0 } :=
    h.setFull hw (.inl rfl) (by decide) (by decide)
  have hruns : ∀ {x y}, m.pairState = .dual ∨ m.pairState = .disagree → x < 3 → y < 16 →
      Sensor.Sound { m with disagreeRun := x, agreeRun := y } :=
    fun hp hx hy => h.setFull hw hp hx hy
  unfold Sensor.judge
  split
  case h_1 => exact h
  case h_2 =>
    split
    · exact hagreed
    · exact h
  case h_3 =>
    split
    · exact hagreed
    · exact h
  case h_4 hp =>
    split
    · exact hruns (.inl hp) (by decide) h.agreeRun
    · split
      · exact h.setFull hw (.inr rfl) (by decide) (by decide)
      · exact hruns (.inl hp) (by omega) h.agreeRun
  case h_5 hp =>
    split
    · split
      · exact hagreed
      · exact hruns (.inr hp) h.disagreeRun (by omega)
    · exact hruns (.inr hp) h.disagreeRun (by decide)

/-- R43: the window takes a pair and stays at four. -/
theorem pushPair_length {w : List Pair} (h : w.length ≤ 4) (x : Pair) :
    (pushPair w x).length ≤ 4 ∧ (w.length = 4 → (pushPair w x).length = 4) := by
  unfold pushPair
  split <;> simp <;> omega

/-- R42, R43: a pair that forms between two GOOD channels. -/
theorem Sensor.Sound.addPair {m : Sensor} (h : m.Sound) (hgood : ∀ y, (m.chan y).state = .good)
    (x : Channel) (t : Nat) (pr : Pair) : (m.addPair x t pr).Sound := by
  set y := otherChannel x
  have hmark : (m.setChan y { m.chan y with paired := true }).Sound :=
    h.setChan (by simp [ChannelSound, hgood y, (h.channel y).2.2 (hgood y)]) Iff.rfl
  have hchan : ∀ z, ((m.setChan y { m.chan y with paired := true }).chan z).state = .good := by
    intro z
    by_cases hz : z = y
    · rw [hz, Sensor.setChan_same]
      exact hgood y
    · rw [m.setChan_of_ne _ hz]
      exact hgood z
  obtain ⟨hpair, hwindow, -, -⟩ := m.setChan_pairRecord y { m.chan y with paired := true }
  obtain ⟨hle, hfull⟩ := pushPair_length h.window pr
  have hpushed : Sensor.Sound
      { m.setChan y { m.chan y with paired := true } with window := pushPair m.window pr } :=
    { channel := fun z => by rw [Sensor.chan_mk]; exact hmark.channel z
      window := hle
      disagreeRun := hmark.disagreeRun
      agreeRun := hmark.agreeRun
      paired := fun _ z => by rw [Sensor.chan_mk]; exact hchan z
      none := fun hn => absurd (hchan x) (hmark.none hn x)
      single := fun z _ => by rw [Sensor.chan_mk]; exact hchan z
      full := fun hboth => hfull (by rw [← hwindow]; exact hmark.full hboth) }
  unfold Sensor.addPair
  dsimp only
  split
  · rename_i hw
    exact hpushed.judge hw _ _
  · exact hpushed

theorem Sensor.Sound.tryPair {m : Sensor} (h : m.Sound) {x : Channel} {v : Sample} (t : Nat) :
    (m.tryPair x t (m.pairing x v)).Sound := by
  unfold Sensor.tryPair
  split
  · rename_i pr hpr
    exact h.addPair (Sensor.pairing_good hpr) x t pr
  · exact h

/-- R36 step 5: the latest sample of a channel that is not ABSENT; only a GOOD one's is paired. -/
theorem Sensor.Sound.storeLatest {m : Sensor} (h : m.Sound) {x : Channel} {paired : Bool}
    (v : Sample) (hne : (m.chan x).state ≠ .absent)
    (hpaired : paired = true → (m.chan x).state = .good) : (m.storeLatest x v paired).Sound := by
  obtain ⟨-, hsettling, hgood⟩ := h.channel x
  refine h.setChan ⟨fun ha => absurd ha hne, fun hs => ?_, hgood⟩ Iff.rfl
  obtain ⟨hlow, hhigh, htimeout, -⟩ := hsettling hs
  refine ⟨hlow, hhigh, htimeout, ?_⟩
  cases paired with
  | false => rfl
  | true => exact absurd (hs.symm.trans (hpaired rfl)) (by decide)

/-- R36: an OK frame leaves its channel SETTLING or GOOD. -/
theorem Sensor.settleChannel_ne_absent (m : Sensor) (x : Channel) :
    ((m.settleChannel x).chan x).state ≠ .absent := by
  unfold Sensor.settleChannel
  dsimp only
  split
  · rw [Sensor.chan_mk, Sensor.setChan_same]
    exact ChannelRecord.takeOk_ne_absent _
  · rw [Sensor.setChan_same]
    exact ChannelRecord.takeOk_ne_absent _

theorem takeSample_sound (x : Channel) (v : Sample) {s : State} (h : s.sensor.Sound) :
    (takeSample x v s).sensor.Sound := by
  rw [takeSample_sensor]
  refine ((h.settleChannel x).tryPair _).storeLatest v ?_ fun hpaired => ?_
  · rw [Sensor.tryPair_chan]
    exact s.sensor.settleChannel_ne_absent x
  · obtain ⟨pr, hpr⟩ := Option.isSome_iff_exists.1 hpaired
    rw [Sensor.tryPair_chan]
    exact Sensor.pairing_good hpr x

theorem loseChannel_sound (x : Channel) (c : SensorCause) {s : State} (h : s.sensor.Sound) :
    (loseChannel x c s).sensor.Sound := by
  rw [loseChannel_sensor]
  exact h.loseChannel x

theorem handleSensor_sound (x : Channel) (p : List Byte) {s : State} (h : s.sensor.Sound) :
    (handleSensor x p s).sensor.Sound := by
  unfold handleSensor
  split
  · exact h
  · split
    · exact takeSample_sound _ _ h
    · split
      · unfold takeFault
        split
        · exact h
        · exact loseChannel_sound _ _ h
      · exact h

theorem channelExpiry_sound (x : Channel) {s : State} (h : s.sensor.Sound) :
    (channelExpiry x s).sensor.Sound := by
  unfold channelExpiry
  split
  · exact loseChannel_sound _ _ h
  · exact h

theorem sensorSound_decides : Field.sensor.Decides (fun s => s.sensor.Sound) :=
  fun _ _ hsame => (congrArg Sensor.Sound hsame).mpr

theorem deliver_sensor_sound (role : Role) (p : List Byte) {s : State} (h : s.sensor.Sound) :
    (deliver role p s).sensor.Sound := by
  have hother : ∀ {fs t}, SameBut fs s t → Field.sensor ∉ fs → t.sensor.Sound :=
    fun hframe hout => sensorSound_decides _ _ (hframe .sensor hout) h
  cases role with
  | sensorP => exact handleSensor_sound .p p h
  | sensorQ => exact handleSensor_sound .q p h
  | odometry => exact hother (handleOdometry_frame p s) (by decide)
  | markerReader => exact hother (handleMarker_frame p s) (by decide)
  | unitStatus => exact hother (handleUnitStatus_frame p s) (by decide)
  | manager => exact h

theorem sensorSound_invariant : InputInvariant .sensor (fun s => s.sensor.Sound) where
  input := by decide
  decides := sensorSound_decides
  reset := Sensor.reset_sound
  deliver := fun role p _ h => deliver_sensor_sound role p h
  odometryExpiry := fun s => sensorSound_decides _ _ (odometryExpiry_frame s .sensor (by decide))
  channelExpiry := fun x _ h => channelExpiry_sound x h
  restart := fun s => (congrArg Sensor.Sound (restartBlocks_sensor s)).mpr Sensor.reset_sound

/-- Settles O53: each record is reached by its own frames, its own timeout and a restart alone, and
each of them leaves it sound. -/
theorem inputsStaySound : Obligations.InputsStaySound := by
  intro s t hstep
  rw [odometrySound_iff, odometrySound_iff, sensorSound_iff, sensorSound_iff]
  exact ⟨odometrySound_invariant.step hstep, sensorSound_invariant.step hstep⟩

end Sys2Proof.Machine
end

section
/-! What the odometry unit does with a frame, a stamp and its timeout, and the sensor monitor with a
channel's timeout (R18 to R32, R40, R44, R51, R116). -/

set_option Elab.async false

namespace Sys2Proof.Machine

/-! ## The position-uncertain condition -/

/-- R29: the frame's own step hands on no cell where it goes backwards or nowhere. -/
theorem deltaCells_of_nonpos {delta : Int} (h : delta ≤ 0) (s : State) : deltaCells delta s = 0 :=
  if_pos h

/-- R22 steps 1 and 2: what a frame in TRACKING sets before its step is judged. -/
def State.referred (d : Distance) (speed : Nat) (s : State) : State :=
  (setSpeed speed s).setOdo
    { s.odo with lastDistance := d, speed := min speed 400, timeout := some 100 }

/-- R22: steps 3 and 4 from the state of steps 1 and 2, and the health last. -/
theorem takeOdometry_tracking (d : Distance) (speed : Nat) (slipped : Bool) {s : State}
    (h : s.odo.state = .tracking) :
    let delta := counterDiff d s.odo.lastDistance
    let u := s.referred d speed
    takeOdometry d speed slipped s =
      if slipped then slip (takeDelta delta u)
      else recover (deltaCells delta u) (takeDelta delta u) := by
  simp only [takeOdometry, h]
  rfl

/-- R28: SLIP is handled last in every odometry state. -/
theorem takeOdometry_slip (d : Distance) (speed : Nat) (s : State) :
    ∃ t, takeOdometry d speed true s = slip t := by
  unfold takeOdometry
  split <;> exact ⟨_, rfl⟩

/-- R29: what an OK frame makes of the condition while it is set. -/
theorem recover_uncertain (k : Nat) {s : State} (h : s.odo.uncertain = true) :
    if 200 ≤ s.odo.recovery + k
    then (recover k s).odo.uncertain = false ∧ (recover k s).odo.recovery = 0
    else (recover k s).odo.uncertain = true ∧ (recover k s).odo.recovery = s.odo.recovery + k := by
  rw [recover_odo_uncertain k h]
  split
  · exact ⟨rfl, rfl⟩
  · exact ⟨h, rfl⟩

/-- Settles O12: SLIP by its place as the last thing done; recovery by the record that steps 1 to 4
of R22 hand to step 5. -/
theorem slipAndRecovery : Obligations.SlipAndRecovery := by
  intro d speed s
  refine ⟨?_, fun htracking huncertain => ?_⟩
  · obtain ⟨t, ht⟩ := takeOdometry_slip d speed s
    rw [ht, slip_odo]
    exact ⟨rfl, rfl⟩
  · obtain ⟨hset, hcount⟩ :=
      takeDelta_uncertain (counterDiff d s.odo.lastDistance) (s.referred d speed)
    have hrecovered := recover_uncertain
      (deltaCells (counterDiff d s.odo.lastDistance) (s.referred d speed)) (hset.trans huncertain)
    rw [hcount] at hrecovered
    dsimp only
    rw [takeOdometry_tracking d speed false htracking]
    exact hrecovered

/-! ## The conversion of a stamp -/

theorem convertStamp_unset {stamp : Distance} {s : State} (h : s.odo.state ≠ .tracking) :
    convertStamp stamp s = .noPosition := if_pos h

/-- R32: in TRACKING the stamp is judged by how far it lies back, at most 32 m. -/
theorem convertStamp_tracking {stamp : Distance} {s : State} (h : s.odo.state = .tracking) :
    let back := max (counterDiff s.odo.lastDistance stamp) 0
    convertStamp stamp s =
      if 3200 < back then .stale
      else if s.line.newest - back / 50 < (s.line.clearMark : Int) then .noPosition
      else .cell (s.line.newest - back / 50).toNat := if_neg (not_not.2 h)

/-- Settles O13, by the tests of R32 in their order. -/
theorem stampConversion : Obligations.StampConversion := by
  intro stamp s back
  by_cases htracking : s.odo.state = .tracking
  · have hconvert : convertStamp stamp s =
        if 3200 < back then .stale
        else if s.line.newest - back / 50 < (s.line.clearMark : Int) then .noPosition
        else .cell (s.line.newest - back / 50).toNat := convertStamp_tracking htracking
    have hnewest : s.line.newest = (s.line.inputCell : Int) - 1 := rfl
    rw [hconvert]
    clear_value back
    by_cases hstale : 3200 < back
    · rw [if_pos hstale]
      refine ⟨fun n => ?_, by simp [htracking, hstale]⟩
      simp only [reduceCtorEq, false_iff]
      omega
    · rw [if_neg hstale]
      refine ⟨fun n => ?_, by split <;> simp [hstale]⟩
      split
      · simp only [reduceCtorEq, false_iff]
        omega
      · simp only [Converted.cell.injEq, htracking, true_and]
        omega
  · rw [convertStamp_unset htracking]
    simp [htracking]

/-! ## A frame taken -/

/-- R116: the gate as the statements write it, with the hysteresis taken from V_on. -/
theorem gateNext_eq (vOn hysteresis speed : Nat) (gate : Bool) :
    gateNext vOn hysteresis speed gate =
      if vOn ≤ speed then true
      else if (speed : Int) < (vOn : Int) - hysteresis then false else gate := by
  have h : speed + hysteresis < vOn ↔ (speed : Int) < (vOn : Int) - hysteresis := by omega
  simp only [gateNext, h]

/-- R23: a step of more than 32 m backwards. -/
theorem takeDelta_backward {delta : Int} (h : delta < -3200) (s : State) : takeDelta delta s =
    offerReport (.odometry .jump s.odo.state s.line.inputCell (some (.backward, delta)))
      (s.setOdo { s.odo with remainder := 0, debt := 0 }) := if_pos h

/-- R25: a smaller step backwards adds to the debt. -/
theorem takeDelta_debt {delta : Int} (hlow : -3200 ≤ delta) (h : delta < 0) (s : State) :
    takeDelta delta s =
      s.setOdo { s.odo with debt := min (s.odo.debt + (-delta).toNat) 65535 } := by
  simp only [takeDelta, if_neg (not_lt.2 hlow), if_pos h]

/-- R26, R27: a step forwards, with the state that its JUMP report carries. -/
theorem takeDelta_forward {delta : Int} (h : 0 ≤ delta) (s : State) :
    let f := forwardStep delta.toNat s.odo.debt s.odo.remainder
    let t := s.setOdo { s.odo with debt := f.debt, remainder := f.remainder }
    takeDelta delta s = if f.cells = 0 then t else
      advance f.cells (fun u =>
        if f.clamped then
          some (.odometry .jump s.odo.state u.line.inputCell (some (.forward, delta)))
        else none) t := by
  dsimp only
  simp only [takeDelta, if_neg (show ¬delta < -3200 by omega), if_neg (not_lt.2 h)]
  rfl

/-- Settles O11: each odometry state by its own rule, and the steps of TRACKING by the size and sign
of delta. -/
theorem odometryFrameTaken : Obligations.OdometryFrameTaken := by
  intro d speed slipped s gated based moved slips recovers first health delta
  have hbased : ∀ u, setReference d speed u = based u := fun u => by
    simp only [setReference, setSpeed, gateNext_eq]
    rfl
  have hmoved : s.referred d speed = moved := by
    simp only [State.referred, setSpeed, gateNext_eq]
    rfl
  have hrecovers : ∀ k u, recover k u = recovers k u := by
    intro k u
    cases hu : u.odo.uncertain with
    | false => simp only [recover, recovers, hu, Bool.false_eq_true, if_true, if_false]
    | true =>
      by_cases hcount : 200 ≤ u.odo.recovery + k
      · simp only [recover, recovers, hu, hcount, not_lt.2 hcount, reduceCtorEq, if_true, if_false]
        rfl
      · simp only [recover, recovers, hu, hcount, not_le.1 hcount, reduceCtorEq, if_true, if_false]
  refine ⟨fun hunset => ?_, fun hlost => ?_, fun htracking => ?_⟩
  · rw [← hbased]
    simp only [takeOdometry, hunset]
    rfl
  · rw [← hbased]
    simp only [takeOdometry, hlost]
    rfl
  · have htaken : ∀ t, takeDelta delta moved = t →
        takeOdometry d speed slipped s = health (deltaCells delta moved) t := by
      rintro t rfl
      rw [takeOdometry_tracking d speed slipped htracking, hmoved]
      simp only [hrecovers]
      rfl
    have hstate : moved.odo.state = .tracking := htracking
    refine ⟨fun hback => ?_, fun hlow hneg => ?_, fun hpos => ?_⟩
    · rw [htaken _ (takeDelta_backward hback moved), deltaCells_of_nonpos (by omega), hstate]
      rfl
    · rw [htaken _ (takeDelta_debt hlow hneg moved), deltaCells_of_nonpos (by omega)]
      rfl
    · have hcells : deltaCells delta moved = if delta = 0 then 0
          else (forwardStep delta.toNat s.odo.debt s.odo.remainder).cells := by
        have hzero : delta ≤ 0 ↔ delta = 0 := by omega
        simp only [deltaCells, hzero]
        rfl
      rw [htaken _ (takeDelta_forward hpos moved), hcells, hstate]
      rfl

/-! ## The supervision timeouts -/

/-- R40, R44, R51: a channel that was not GOOD goes ABSENT without a report. -/
theorem loseChannel_settling {x : Channel} {s : State} (c : SensorCause)
    (h : (s.sensor.chan x).state ≠ .good) :
    loseChannel x c s = s.setSensor (s.sensor.setChan x .reset) := by
  have hpair := (s.sensor.setChan_pairRecord x .reset).1
  simp only [loseChannel, reportPair, Sensor.loseChannel, if_neg h, State.setSensor_sensor, hpair,
    if_true]

/-- R44: the pair state that the loss of a GOOD channel leaves, by the other channel's state. -/
theorem loseChannel_good {x : Channel} {s : State} (c : SensorCause)
    (h : (s.sensor.chan x).state = .good) :
    let left :=
      pairLost x (decide ((s.sensor.chan (otherChannel x)).state = .good)) s.sensor.pairState
    let lost : Sensor := { s.sensor.setChan x .reset with
      window := [], disagreeRun := 0, agreeRun := 0, pairState := left }
    loseChannel x c s = if left = s.sensor.pairState then s.setSensor lost
      else offerReport (.sensor s.sensor.pairState left c (some x) lost.chP.state lost.chQ.state 0)
        (s.setSensor lost) := by
  simp only [loseChannel, reportPair, Sensor.loseChannel, if_pos h, State.setSensor_sensor]

/-- R30, R116: at speed 0 the gate opens for V_on 0 alone, and closes above the hysteresis. -/
theorem gateNext_zero (vOn hysteresis : Nat) (gate : Bool) : gateNext vOn hysteresis 0 gate =
    if vOn = 0 then true else if hysteresis < vOn then false else gate := by
  simp [gateNext]

/-- R21: the odometry timeout expired. -/
theorem odometryTimeout_expires {s : State} (h : s.odo.state = .tracking)
    (ht : s.odo.timeout.isSome = true) : odometryExpiry s =
      offerReport (.odometry .lost .lost s.line.inputCell none)
        ((s.setOdo { s.odo with state := .lost, speed := 0, timeout := none }).setDemand
          { s.demand with
            gateOpen := if s.profile.vOn = 0 then true
            else if s.profile.hysteresis < s.profile.vOn then false else s.demand.gateOpen }) := by
  rw [← gateNext_zero]
  exact if_pos ⟨h, ht⟩

/-- Settles O14: a stopped timeout by the test of its expiry, a running one by what it makes of the
record. -/
theorem supervisionTimeoutsExpire : Obligations.SupervisionTimeoutsExpire := by
  constructor
  · intro s hrunning
    rw [exec_event (f := unlessReset odometryExpiry) rfl, unlessReset_running hrunning]
    refine ⟨fun htracking htimeout => congrArg _ (odometryTimeout_expires htracking htimeout),
      fun hstopped => congrArg _ (if_neg ?_)⟩
    rintro ⟨htracking, htimeout⟩
    rcases hstopped with hstate | hnone
    · exact hstate htracking
    · simp [hnone] at htimeout
  · intro x s hrunning m single other gone left lost
    rw [exec_event (f := unlessReset (channelExpiry x)) rfl, unlessReset_running hrunning]
    have hexpires : (m.chan x).timeout.isSome = true →
        channelExpiry x s = loseChannel x .channelTimeout s := fun h => if_pos h
    have hleft : left =
        pairLost x (decide ((m.chan (otherChannel x)).state = .good)) m.pairState := by
      have hsingle : single = singleOf := rfl
      have hother : other = otherChannel := rfl
      simp only [left, hsingle, hother, pairLost, decide_eq_true_eq]
    refine ⟨fun hstopped => congrArg _ (if_neg ?_), fun htimeout hsettling => ?_,
      fun htimeout hgood => ?_⟩
    · rw [show (s.sensor.chan x).timeout = none from hstopped]
      simp
    · rw [hexpires htimeout, loseChannel_settling .channelTimeout hsettling]
      rfl
    · rw [hexpires htimeout, loseChannel_good .channelTimeout hgood]
      simp only [lost, hleft]
      rfl

end Sys2Proof.Machine
end

section
/-! The payload that an accepted frame hands to a block, judged (R18, R35, R70, R131, R178). -/

set_option Elab.async false

namespace Sys2Proof.Machine

theorem readUnitState_code (u : UnitState) : readUnitState (unitStateCode (some u)) = some u := by
  cases u <;> rfl

theorem readUnitState_none {n : Nat} (h : 2 < n) : readUnitState n = none := by
  unfold readUnitState; split <;> first | omega | rfl

/-! ## SENSOR frames -/

theorem handleSensor_ignored {p : List Byte} (h : p.length ≠ 5 ∨ 1 < field p 4 1) (x : Channel)
    (s : State) : handleSensor x p s = s := by
  unfold handleSensor
  rcases h with hlength | hhealth
  · exact if_pos hlength
  · rw [if_neg (show ¬field p 4 1 = 0 by omega), if_neg (show ¬field p 4 1 = 1 by omega), ite_self]

theorem handleSensor_fault {p : List Byte} (hlength : p.length = 5) (h : field p 4 1 = 1)
    (x : Channel) (s : State) : handleSensor x p s = takeFault x s := by
  simp [handleSensor, hlength, h]

/-- R35: an acceleration clamped to 12 bits. -/
theorem handleSensor_ok {p : List Byte} (hlength : p.length = 5) (h : field p 4 1 = 0)
    (x : Channel) (s : State) : handleSensor x p s = takeSample x
      { stamp := BitVec.ofNat 16 (field p 0 2),
        value := max (-2048) (min 2047 (fieldS p 2 2)) } s := by
  rw [← bound_eq (by decide)]
  simp [handleSensor, hlength, h]

/-! ## ODOMETRY frames -/

theorem handleOdometry_ignored {p : List Byte} (h : p.length ≠ 7 ∨ 1 < field p 6 1) (s : State) :
    handleOdometry p s = s := by
  unfold handleOdometry
  rcases h with hlength | hhealth
  · exact if_pos hlength
  · rw [if_neg (show ¬field p 6 1 = 0 by omega), if_neg (show ¬field p 6 1 = 1 by omega), ite_self]

theorem handleOdometry_taken {p : List Byte} {slipped : Bool} (hlength : p.length = 7)
    (h : field p 6 1 = boolCode slipped) (s : State) : handleOdometry p s =
      takeOdometry (BitVec.ofNat 32 (field p 0 4)) (field p 4 2) slipped s := by
  cases slipped <;> simp [handleOdometry, hlength, h, boolCode]

/-! ## MARKER frames -/

theorem handleMarker_ignored {p : List Byte} (h : p.length ≠ 6 ∨ 15 < field p 0 1) (s : State) :
    handleMarker p s = s := by
  unfold handleMarker
  rcases h with hlength | hclass
  · exact if_pos hlength
  · rw [readFin_none hclass, ite_self]

theorem handleMarker_taken {p : List Byte} {cls : MarkerClass} (hlength : p.length = 6)
    (h : field p 0 1 = cls.val) (s : State) : handleMarker p s =
      offerMarker cls (BitVec.ofNat 8 (field p 1 1)) (BitVec.ofNat 32 (field p 2 4)) s := by
  simp [handleMarker, hlength, h, readFin_val, byteAt]

/-! ## UNIT_STATUS frames -/

theorem handleUnitStatus_ignored {p : List Byte}
    (h : p.length ≠ 6 ∨ 2 < field p 1 1 ∨ 11 < field p 0 1) (s : State) :
    handleUnitStatus p s = s := by
  unfold handleUnitStatus
  rcases h with hlength | hstate | hunit
  · exact if_pos hlength
  · rw [readUnitState_none hstate]
    exact ite_self _
  · rw [readFin_none hunit]
    cases readUnitState (field p 1 1) <;> exact ite_self _

/-- A test that no turn changes picks the elements whose turns take place before the first turn. -/
theorem foldl_filter_of_fixed {α β : Type} {test : β → α → Bool} {f : β → α → β}
    (hfixed : ∀ s a b, test (f s a) b = test s b) (l : List α) (s : β) :
    l.foldl (fun t a => if test t a then f t a else t) s = (l.filter (test s)).foldl f s := by
  induction l generalizing s with
  | nil => rfl
  | cons a l ih =>
    have hsame : test (f s a) = test s := funext (hfixed s a)
    cases ha : test s a with
    | true => simp [ha, ih, hsame]
    | false => simp [ha, ih]

/-- R131: the positions that take a status are those enabled and mapped to its unit as it comes. -/
theorem takeUnitStatus_eq (unit : UnitId) (u : UnitState) (actual : Int) (echo : Word16)
    (s : State) : takeUnitStatus unit u actual echo s =
      (allCars.filter (fun c => s.enabled c = true ∧ s.unitOf c = unit)).foldl
        (fun t c => takeStatus c u actual echo t) s := by
  have hfixed : ∀ (t : State) (c d : Car),
      ((takeStatus c u actual echo t).enabled d &&
        decide ((takeStatus c u actual echo t).unitOf d = unit)) =
          (t.enabled d && decide (t.unitOf d = unit)) := by
    intro t c d
    obtain ⟨hunit, henabled⟩ := takeStatus_map c d u actual echo t
    rw [hunit, henabled]
  have h := foldl_filter_of_fixed (test := fun t c => t.enabled c && decide (t.unitOf c = unit))
    hfixed allCars s
  simpa [takeUnitStatus, forCars] using h

theorem handleUnitStatus_taken {p : List Byte} {unit : UnitId} {u : UnitState}
    (hlength : p.length = 6) (hunit : field p 0 1 = unit.val)
    (hstate : field p 1 1 = unitStateCode (some u)) (s : State) : handleUnitStatus p s =
      takeUnitStatus unit u (fieldS p 2 2) (BitVec.ofNat 16 (field p 4 2)) s := by
  simp [handleUnitStatus, hlength, hunit, hstate, readFin_val, readUnitState_code]

/-- Settles O8: for each role the payloads ignored and the payloads taken. -/
theorem payloadsJudged : Obligations.PayloadsJudged := by
  intro p s
  refine ⟨fun role x hrole => ?_, fun h => handleOdometry_ignored h s,
    fun slipped hlength h => handleOdometry_taken hlength h s, fun h => handleMarker_ignored h s,
    fun cls hlength h => handleMarker_taken hlength h s, fun h => handleUnitStatus_ignored h s,
    fun unit u hlength hunit hstate => ?_⟩
  · have hdeliver : deliver role p s = handleSensor x p s := by
      rcases hrole with ⟨rfl, rfl⟩ | ⟨rfl, rfl⟩ <;> rfl
    rw [hdeliver]
    exact ⟨fun h => handleSensor_ignored h x s, fun hlength h => handleSensor_fault hlength h x s,
      fun hlength h => handleSensor_ok hlength h x s⟩
  · exact (handleUnitStatus_taken hlength hunit hstate s).trans (takeUnitStatus_eq _ _ _ _ _)

end Sys2Proof.Machine
end

section
/-! The judging of full windows in each pair state (R45, R46, R47). -/

set_option Elab.async false

namespace Sys2Proof.Machine

theorem Sensor.judge_single {m : Sensor} (h : m.pairState = .singleP ∨ m.pairState = .singleQ)
    (t d : Nat) : m.judge t d =
      if d ≤ t then { m with pairState := .dual, disagreeRun := 0, agreeRun := 0 } else m := by
  rcases h with h | h <;> simp only [Sensor.judge, h]

theorem Sensor.judge_dual {m : Sensor} (h : m.pairState = .dual) (t d : Nat) : m.judge t d =
    if d ≤ t then { m with disagreeRun := 0 }
    else if 3 ≤ m.disagreeRun + 1 then
      { m with pairState := .disagree, disagreeRun := 0, agreeRun := 0 }
    else { m with disagreeRun := m.disagreeRun + 1 } := by
  simp only [Sensor.judge, h]

theorem Sensor.judge_disagree {m : Sensor} (h : m.pairState = .disagree) (t d : Nat) :
    m.judge t d =
      if d ≤ t then
        if 16 ≤ m.agreeRun + 1 then { m with pairState := .dual, disagreeRun := 0, agreeRun := 0 }
        else { m with agreeRun := m.agreeRun + 1 }
      else { m with agreeRun := 0 } := by
  simp only [Sensor.judge, h]

/-- R46: a window in agreement ends the run in DUAL. -/
theorem Sensor.judge_dual_agree {m : Sensor} (h : m.pairState = .dual) {t d : Nat} (hd : d ≤ t) :
    m.judge t d = { m with disagreeRun := 0 } := by
  rw [m.judge_dual h, if_pos hd]

/-- R46: a window in disagreement before the third in a row counts. -/
theorem Sensor.judge_dual_count {m : Sensor} (h : m.pairState = .dual) {t d : Nat} (hd : t < d)
    (hrun : m.disagreeRun + 1 < 3) :
    m.judge t d = { m with disagreeRun := m.disagreeRun + 1 } := by
  rw [m.judge_dual h, if_neg (not_le.2 hd), if_neg (not_le.2 hrun)]

/-- R47: windows in agreement that do not reach the sixteenth in a row add to the run. -/
theorem Sensor.judge_disagree_count {m : Sensor} (h : m.pairState = .disagree) {t : Nat}
    (ds : List Nat) (hds : ∀ d ∈ ds, d ≤ t) (hrun : m.agreeRun + ds.length < 16) :
    ds.foldl (fun n d => n.judge t d) m = { m with agreeRun := m.agreeRun + ds.length } := by
  induction ds generalizing m with
  | nil => rfl
  | cons d ds ih =>
    obtain ⟨hd, hrest⟩ := List.forall_mem_cons.1 hds
    rw [List.length_cons] at hrun
    have hbelow : ¬16 ≤ m.agreeRun + 1 := by omega
    have hstep : m.judge t d = { m with agreeRun := m.agreeRun + 1 } := by
      rw [m.judge_disagree h, if_pos hd, if_neg hbelow]
    rw [List.foldl_cons, hstep, ih (m := { m with agreeRun := m.agreeRun + 1 }) h hrest
      (by dsimp only; omega), List.length_cons, Nat.add_right_comm, Nat.add_assoc]

/-- R47: the sixteenth window in agreement in a row gives DUAL. -/
theorem Sensor.judge_disagree_sixteen {m : Sensor} (h : m.pairState = .disagree)
    (hzero : m.agreeRun = 0) {t : Nat} {ds : List Nat} (hds : ∀ d ∈ ds, d ≤ t)
    (hlength : ds.length = 16) : ds.foldl (fun n d => n.judge t d) m =
      { m with pairState := .dual, disagreeRun := 0, agreeRun := 0 } := by
  rcases ds.eq_nil_or_concat' with rfl | ⟨before, last, rfl⟩
  · cases hlength
  · rw [List.length_append, List.length_singleton] at hlength
    obtain ⟨hbefore, hlast⟩ := List.forall_mem_append.1 hds
    have hfifteen : before.foldl (fun n d => n.judge t d) m = { m with agreeRun := 15 } := by
      rw [Sensor.judge_disagree_count h before hbefore (by omega), hzero, Nat.zero_add,
        Nat.succ_injective hlength]
    rw [List.foldl_append, hfifteen, List.foldl_cons, List.foldl_nil,
      Sensor.judge_disagree (m := { m with agreeRun := 15 }) h,
      if_pos (hlast last (List.mem_singleton_self last)), if_pos (le_refl 16)]

/-- Settles O16: each judged window by the pair state that it meets, the runs by their counts. -/
theorem fullWindowsJudged : Obligations.FullWindowsJudged := by
  intro m t
  refine ⟨fun hsingle d => ?_, fun hdual d₁ d₂ d₃ d h₁ h₂ h₃ hd hzero => ?_,
    fun hapart hzero ds hds => ⟨fun hbelow => ?_, fun hlength => ?_⟩, fun hapart d hd => ?_⟩
  · rw [m.judge_single hsingle]
    exact ⟨fun hd => if_pos hd, fun hd => if_neg (not_le.2 hd)⟩
  · have hone : m.judge t d₁ = { m with disagreeRun := 1 } := by
      rw [Sensor.judge_dual_count hdual h₁ (by omega), hzero]
    have hdual₁ : (m.judge t d₁).pairState = .dual := by rw [hone]; exact hdual
    have htwo : (m.judge t d₁).judge t d₂ = { m with disagreeRun := 2 } := by
      rw [Sensor.judge_dual_count hdual₁ h₂ (by simp [hone]), hone]
    have hdual₂ : ((m.judge t d₁).judge t d₂).pairState = .dual := by rw [htwo]; exact hdual
    have hsame : m.judge t d = m := by
      rw [Sensor.judge_dual_agree hdual hd, ← hzero]
    refine ⟨hsame, hdual₁, ?_, hdual₂, ?_, ?_⟩
    · rw [Sensor.judge_dual_agree hdual₁ hd]
    · rw [Sensor.judge_dual_agree hdual₂ hd]
    · rw [Sensor.judge_dual hdual₂, if_neg (not_le.2 h₃), if_pos (by rw [htwo]), htwo]
  · rw [Sensor.judge_disagree_count hapart ds hds (by omega), hzero, Nat.zero_add]
  · exact Sensor.judge_disagree_sixteen hapart hzero hds hlength
  · rw [Sensor.judge_disagree hapart, if_neg (not_le.2 hd)]

end Sys2Proof.Machine
end

section
/-! A SENSOR frame taken: the channel's record, the pairing test, the judging, the reports and the fused
sample (R36 to R40, R42 to R44, R49 to R51, R56). -/

set_option Elab.async false

namespace Sys2Proof.Machine

/-! ## The SENSOR report and the fused sample -/

/-- R51: what a change of pair state from `before` makes of the ports and counters, the record after
it being `m`. -/
def tellPair (before : PairState) (cause : SensorCause) (channel : Option Channel) (sum : Nat)
    (m : Sensor) (s : State) : State :=
  if m.pairState = before then s
  else offerReport (.sensor before m.pairState cause channel (m.chan .p).state (m.chan .q).state sum) s

theorem offerReport_setSensor (r : Report) (m : Sensor) (s : State) :
    offerReport r (s.setSensor m) = (offerReport r s).setSensor m := by
  by_cases h : 1 ≤ s.ports.foreFree
  · rw [offerReport, offerReport, if_pos h, State.setSensor_ports, if_pos h]
    rfl
  · rw [offerReport, offerReport, if_neg h, State.setSensor_ports, if_neg h]
    rfl

theorem offerReport_line (r : Report) (s : State) : (offerReport r s).line = s.line :=
  offerReport_frame r s .line (by decide)

theorem tellPair_setSensor (b : PairState) (c : SensorCause) (ch : Option Channel) (d : Nat)
    (n m : Sensor) (s : State) :
    tellPair b c ch d n (s.setSensor m) = (tellPair b c ch d n s).setSensor m := by
  unfold tellPair
  split_ifs
  · rfl
  · exact offerReport_setSensor _ _ _

/-- The report is made from the record that the change leaves. -/
theorem reportPair_setSensor (b : PairState) (c : SensorCause) (ch : Option Channel) (d : Nat)
    (m : Sensor) (s : State) :
    reportPair b c ch d (s.setSensor m) = (tellPair b c ch d m s).setSensor m :=
  tellPair_setSensor b c ch d m m s

theorem tellPair_unchanged {m : Sensor} {b : PairState} (h : m.pairState = b) (c : SensorCause)
    (ch : Option Channel) (d : Nat) (s : State) : tellPair b c ch d m s = s := if_pos h

/-- The report shows the pair state and the channel states alone. -/
theorem tellPair_congr {m n : Sensor} (hpair : m.pairState = n.pairState)
    (hchan : ∀ y, (m.chan y).state = (n.chan y).state) (b : PairState) (c : SensorCause)
    (ch : Option Channel) (d : Nat) (s : State) : tellPair b c ch d m s = tellPair b c ch d n s := by
  simp only [tellPair, hpair, hchan]

theorem tellPair_line (b : PairState) (c : SensorCause) (ch : Option Channel) (d : Nat)
    (m : Sensor) (s : State) : (tellPair b c ch d m s).line = s.line := by
  unfold tellPair
  split
  · rfl
  · exact offerReport_line _ _

theorem tellPair_good {m : Sensor} (h : ∀ y, (m.chan y).state = .good) (b : PairState)
    (c : SensorCause) (ch : Option Channel) (d : Nat) (s : State) : tellPair b c ch d m s =
      if m.pairState = b then s
      else offerReport (.sensor b m.pairState c ch .good .good d) s := by
  simp only [tellPair, h]

/-- R49, R50: the fused sample, if any, delivered. -/
def feedCell (fused : Option (Int × SampleQuality)) (s : State) : State :=
  match fused with
  | some (value, q) => deliverSample value q s
  | none => s

/-- R56: the open cell takes a sample unless its count stands at 16,777,215. -/
theorem deliverSample_eq (value : Int) (q : SampleQuality) (s : State) : deliverSample value q s =
    if s.line.acc.count < 16777215 then
      s.setLine { s.line with
        acc :=
          { sum := s.line.acc.sum + value, count := s.line.acc.count + 1,
            worst := some
              (if q = .single ∨ s.line.acc.worst = some .single then .single else .dual) } }
    else s := by
  unfold deliverSample Accumulator.add
  split_ifs <;> rfl

/-! ## The steps of a frame -/

/-- A channel record replaced by one of the same state leaves the state of both channels. -/
theorem Sensor.setChan_state {m : Sensor} {x : Channel} {r : ChannelRecord}
    (h : r.state = (m.chan x).state) (y : Channel) :
    ((m.setChan x r).chan y).state = (m.chan y).state := by
  rcases Channel.eq_or_other x y with rfl | rfl
  · rw [Sensor.setChan_same, h]
  · rw [Sensor.setChan_other]

/-- R43: the oldest pair leaves a full window. -/
theorem pushPair_eq {w : List Pair} (h : w.length ≤ 4) (pr : Pair) :
    pushPair w pr = (if w.length = 4 then w.drop 1 else w) ++ [pr] := by
  have hfull : 4 ≤ w.length ↔ w.length = 4 := by omega
  simp only [pushPair, hfull]
  split <;> rfl

/-- R42, R43: a pair marks the other channel's sample and joins the window. -/
def Sensor.joinPair (m : Sensor) (x : Channel) (pr : Pair) : Sensor :=
  { m.setChan (otherChannel x) { m.chan (otherChannel x) with paired := true } with
    window := pushPair m.window pr }

/-- R43: the window judged where it is full. -/
def Sensor.judgeFull (m : Sensor) (t : Nat) : Sensor :=
  if m.window.length = 4 then m.judge t (windowSum m.window) else m

theorem Sensor.addPair_eq (m : Sensor) (x : Channel) (t : Nat) (pr : Pair) :
    m.addPair x t pr = (m.joinPair x pr).judgeFull t := rfl

theorem Sensor.joinPair_state (m : Sensor) (x : Channel) (pr : Pair) (y : Channel) :
    ((m.joinPair x pr).chan y).state = (m.chan y).state :=
  (congrArg ChannelRecord.state (Sensor.chan_mk _ _ _ _ _ y)).trans (Sensor.setChan_state (by rfl) y)

theorem Sensor.joinPair_pairState (m : Sensor) (x : Channel) (pr : Pair) :
    (m.joinPair x pr).pairState = m.pairState := (m.setChan_pairRecord _ _).1

theorem Sensor.judgeFull_chan (m : Sensor) (t : Nat) (y : Channel) :
    (m.judgeFull t).chan y = m.chan y := by
  unfold Sensor.judgeFull
  split
  · exact m.judge_chan t _ y
  · rfl

theorem Sensor.judgeFull_window (m : Sensor) (t : Nat) : (m.judgeFull t).window = m.window := by
  unfold Sensor.judgeFull
  split
  · obtain ⟨p, d, a, e⟩ := m.judge_pairRecord t (windowSum m.window)
    rw [e]
  · rfl

/-- The judging reads the pair record alone. -/
theorem Sensor.judge_setChan (m : Sensor) (x : Channel) (r : ChannelRecord) (t d : Nat) :
    (m.setChan x r).judge t d = (m.judge t d).setChan x r := by
  obtain ⟨hpair, -, hdisagree, hagree⟩ := m.setChan_pairRecord x r
  simp only [Sensor.judge, hpair, hdisagree, hagree]
  repeat' split
  all_goals cases x <;> rfl

theorem Sensor.judgeFull_setChan (m : Sensor) (x : Channel) (r : ChannelRecord) (t : Nat) :
    (m.setChan x r).judgeFull t = (m.judgeFull t).setChan x r := by
  have hwindow := (m.setChan_pairRecord x r).2.1
  unfold Sensor.judgeFull
  rw [hwindow]
  split
  · exact m.judge_setChan x r t _
  · rfl

theorem Sensor.storeLatest_judgeFull (m : Sensor) (x : Channel) (v : Sample) (b : Bool) (t : Nat) :
    (m.judgeFull t).storeLatest x v b = (m.storeLatest x v b).judgeFull t := by
  unfold Sensor.storeLatest
  rw [Sensor.judgeFull_chan, Sensor.judgeFull_setChan]

theorem Sensor.setChan_setChan (m : Sensor) (x : Channel) (r₁ r₂ : ChannelRecord) :
    (m.setChan x r₁).setChan x r₂ = m.setChan x r₂ := by cases x <;> rfl

theorem Sensor.storeLatest_pairState (m : Sensor) (x : Channel) (v : Sample) (b : Bool) :
    (m.storeLatest x v b).pairState = m.pairState := (m.setChan_pairRecord _ _).1

theorem Sensor.joinPair_storeLatest (m : Sensor) (x : Channel) (v : Sample) (b : Bool) (pr : Pair) :
    (m.joinPair x pr).storeLatest x v b = (m.storeLatest x v b).joinPair x pr := by
  cases x <;> rfl

theorem Sensor.storeLatest_state (m : Sensor) (x : Channel) (v : Sample) (b : Bool) (y : Channel) :
    ((m.storeLatest x v b).chan y).state = (m.chan y).state :=
  Sensor.setChan_state (by rfl) y

/-! ## The pairing test -/

theorem Sensor.pairing_none_of_not_good {m : Sensor} {x : Channel} (v : Sample)
    (h : (m.chan x).state ≠ .good) : m.pairing x v = none :=
  if_neg fun hgood => h hgood.1

/-- R42: no pair without an unpaired sample of the same stamp on a GOOD channel. -/
theorem Sensor.pairing_none {m : Sensor} {x : Channel} {v : Sample}
    (h : ∀ w ∈ (m.chan (otherChannel x)).latest, (m.chan (otherChannel x)).state = .good →
      (m.chan (otherChannel x)).paired = false → w.stamp ≠ v.stamp) : m.pairing x v = none := by
  rw [Option.eq_none_iff_forall_ne_some]
  intro pr hpr
  unfold Sensor.pairing at hpr
  dsimp only at hpr
  split at hpr
  next hgood =>
    obtain ⟨-, hother, hfresh⟩ := hgood
    split at hpr
    next w hw =>
      rw [if_neg (h w hw hother hfresh)] at hpr
      cases hpr
    next => cases hpr
  next => cases hpr

/-- R42: the pair of a sample of a channel with one of the other channel. -/
def pairOf (x : Channel) (own other : Sample) : Pair :=
  match x with
  | .p => ⟨own.value, other.value⟩
  | .q => ⟨other.value, own.value⟩

/-- R42: the pair that forms. -/
theorem Sensor.pairing_some {m : Sensor} {x : Channel} {v w : Sample}
    (hown : (m.chan x).state = .good) (hw : w ∈ (m.chan (otherChannel x)).latest)
    (hother : (m.chan (otherChannel x)).state = .good)
    (hfresh : (m.chan (otherChannel x)).paired = false) (hstamp : w.stamp = v.stamp) :
    m.pairing x v = some (pairOf x v w) := by
  simp only [Sensor.pairing, hown, hother, hfresh, Option.mem_def.1 hw, hstamp, and_self, if_true]
  rfl

/-! ## The channel of a frame -/

theorem Sensor.settleChannel_other (m : Sensor) (x : Channel) :
    (m.settleChannel x).chan (otherChannel x) = m.chan (otherChannel x) := by
  unfold Sensor.settleChannel
  dsimp only
  split
  · rw [Sensor.chan_mk, Sensor.setChan_other]
  · rw [Sensor.setChan_other]

/-- R37, R38: an OK frame that does not make its channel GOOD leaves the pair record. -/
theorem Sensor.settleChannel_below {m : Sensor} {x : Channel}
    (h : (m.chan x).takeOk.state ≠ .good) :
    m.settleChannel x = m.setChan x (m.chan x).takeOk :=
  if_neg fun hgained => h (by simpa using hgained.2)

/-- R36, R39, R44: the record with an OK frame of a channel GOOD after it, before the judging. -/
def Sensor.takenGood (m : Sensor) (x : Channel) (v : Sample) (paired : Bool) : Sensor :=
  { m.setChan x ⟨.good, 32, some v, paired, some 25⟩ with
    pairState := if (m.chan x).state = .settling ∧ m.pairState = .none then singleOf x
      else m.pairState }

section
variable {m : Sensor} {x : Channel} (h : m.Sound)
  (hx : (m.chan x).state = .good ∨ (m.chan x).state = .settling ∧ (m.chan x).settle + 1 = 32)
include h hx

/-- R38, R39: a channel that was GOOD, and one with its 32nd sample. -/
theorem Sensor.Sound.takeOk_good :
    (m.chan x).takeOk = ⟨.good, 32, (m.chan x).latest, (m.chan x).paired, some 25⟩ := by
  rcases hx with hgood | ⟨hsettling, hlast⟩
  · obtain ⟨hsettle, -⟩ := (h.channel x).2.2 hgood
    simp [ChannelRecord.takeOk, hgood, hsettle]
  · simp [ChannelRecord.takeOk, hsettling, hlast]

/-- R44: the frame of a channel GOOD after it gains that channel where it was SETTLING. -/
theorem Sensor.Sound.settleChannel_good :
    m.settleChannel x = { m.setChan x (m.chan x).takeOk with
      pairState := if (m.chan x).state = .settling ∧ m.pairState = .none then singleOf x
        else m.pairState } := by
  have htaken := h.takeOk_good hx
  rcases hx with hgood | ⟨hsettling, -⟩
  · rw [Sensor.settleChannel, if_neg (fun hgained => hgained.1 hgood), if_neg (by simp [hgood])]
    cases x <;> rfl
  · rw [Sensor.settleChannel, if_pos ⟨by simp [hsettling], by rw [Sensor.setChan_same, htaken]⟩]
    simp [pairGained, hsettling]

theorem Sensor.Sound.settleChannel_storeLatest (v : Sample) (b : Bool) :
    (m.settleChannel x).storeLatest x v b = m.takenGood x v b := by
  rw [h.settleChannel_good hx, h.takeOk_good hx]
  cases x <;> rfl

end

/-- R42, R43: the other channel's mark and the window, beside the frame's own record. -/
theorem Sensor.takenGood_joinPair (m : Sensor) (x : Channel) (v : Sample) (b : Bool) (pr : Pair) :
    (m.takenGood x v b).joinPair x pr =
      { (m.setChan x ⟨.good, 32, some v, b, some 25⟩).setChan (otherChannel x)
          { m.chan (otherChannel x) with paired := true } with
        pairState := if (m.chan x).state = .settling ∧ m.pairState = .none then singleOf x
          else m.pairState
        window := pushPair m.window pr } := by
  cases x <;> rfl

/-! ## A frame taken, step by step -/

/-- R36: the record that the five steps leave, the reports of steps 2 and 3, and the sample of
step 4. -/
theorem takeSample_eq {x : Channel} {v : Sample} {s : State} {m n : Sensor} {pr : Option Pair}
    (hm : s.sensor.settleChannel x = m) (hpr : m.pairing x v = pr)
    (hn : m.tryPair x s.profile.threshold pr = n) : takeSample x v s =
      (feedCell (fusedSample n.pairState x v pr)
        (tellPair m.pairState (judgeCause n.pairState) none (windowSum n.window) n
          (tellPair s.sensor.pairState .channelGood (some x) 0 m s))).setSensor
        (n.storeLatest x v pr.isSome) := by
  subst hm hpr hn
  simp only [takeSample, reportPair_setSensor, State.setSensor_sensor, State.setSensor_setSensor]
  generalize fusedSample _ _ _ _ = fused
  cases fused <;> rfl

/-- R40: a FAULT frame of a channel that is not ABSENT. -/
theorem takeFault_loses {x : Channel} {s : State} (h : (s.sensor.chan x).state ≠ .absent) :
    takeFault x s = loseChannel x .channelFault s := if_neg h

/-- R37, R38: an OK frame that leaves its channel SETTLING is stored, and nothing else. -/
theorem takeSample_below {x : Channel} {s : State} (h : s.sensor.Sound) (v : Sample)
    (hx : (s.sensor.chan x).takeOk.state ≠ .good) : takeSample x v s =
      s.setSensor (s.sensor.setChan x
        { (s.sensor.chan x).takeOk with latest := some v, paired := false }) := by
  have hsettle := Sensor.settleChannel_below hx
  have hstate : ((s.sensor.settleChannel x).chan x).state ≠ .good := by
    rwa [hsettle, Sensor.setChan_same]
  have hpair : (s.sensor.settleChannel x).pairState = s.sensor.pairState := by
    rw [hsettle, (s.sensor.setChan_pairRecord x _).1]
  have hsingle : s.sensor.pairState ≠ singleOf x := fun hp =>
    hx (ChannelRecord.takeOk_good (h.single x hp))
  have hfused : fusedSample s.sensor.pairState x v none = none := by
    simp [fusedSample, hsingle]
  rw [takeSample_eq rfl (Sensor.pairing_none_of_not_good v hstate) rfl, Sensor.tryPair, hpair,
    hfused, tellPair_unchanged hpair, tellPair_unchanged hpair, hsettle, Sensor.storeLatest,
    Sensor.setChan_same, Sensor.setChan_setChan]
  rfl

/-- R49: an OK frame without a pair gives a sample in SINGLE of its own channel alone. -/
theorem takeSample_unpaired {x : Channel} {v : Sample} {s : State}
    (h : (s.sensor.settleChannel x).pairing x v = none) :
    let k := (s.sensor.settleChannel x).storeLatest x v false
    takeSample x v s =
      let u := tellPair s.sensor.pairState .channelGood (some x) 0 k (s.setSensor k)
      if k.pairState = singleOf x then deliverSample v.value .single u else u := by
  intro k
  have hpair : (s.sensor.settleChannel x).pairState = k.pairState :=
    (Sensor.storeLatest_pairState _ x v false).symm
  have htold : tellPair s.sensor.pairState .channelGood (some x) 0 (s.sensor.settleChannel x) s =
      tellPair s.sensor.pairState .channelGood (some x) 0 k s :=
    tellPair_congr hpair (fun y => (Sensor.storeLatest_state _ x v false y).symm) _ _ _ _ s
  have hfused : fusedSample k.pairState x v none =
      if k.pairState = singleOf x then some (v.value, .single) else none := by
    by_cases hdual : k.pairState = .dual
    · rw [hdual]
      cases x <;> rfl
    · exact if_neg hdual
  rw [takeSample_eq rfl h rfl, Sensor.tryPair, tellPair_unchanged rfl, htold, hpair, hfused]
  simp only [tellPair_setSensor]
  split_ifs <;> rfl

/-- R42 to R51: an OK frame with a pair. -/
theorem takeSample_paired {x : Channel} {v : Sample} {pr : Pair} {s : State}
    (h : (s.sensor.settleChannel x).pairing x v = some pr) :
    let n := ((s.sensor.settleChannel x).storeLatest x v true).joinPair x pr
    let k := n.judgeFull s.profile.threshold
    takeSample x v s =
      let u := (tellPair s.sensor.pairState .channelGood (some x) 0 n (s.setSensor n)).setSensor k
      let t := if k.pairState = n.pairState then u
        else offerReport (.sensor n.pairState k.pairState (judgeCause k.pairState) none .good .good
          (windowSum n.window)) u
      if k.pairState = .dual then deliverSample (nearest (pr.p + pr.q) 2) .dual t
      else if k.pairState = singleOf x then deliverSample v.value .single t else t := by
  intro n k
  set m := s.sensor.settleChannel x
  set a := (m.joinPair x pr).judgeFull s.profile.threshold
  have hk : a.storeLatest x v true = k := by
    rw [Sensor.storeLatest_judgeFull, Sensor.joinPair_storeLatest]
  have hstates : ∀ y, (n.chan y).state = (m.chan y).state := fun y => by
    rw [Sensor.joinPair_state, Sensor.storeLatest_state]
  have hn : m.pairState = n.pairState := by
    rw [Sensor.joinPair_pairState, Sensor.storeLatest_pairState]
  have ha : a.pairState = k.pairState := by rw [← hk, Sensor.storeLatest_pairState]
  have hwindow : a.window = n.window := by
    rw [Sensor.judgeFull_window]
    cases x <;> rfl
  have hgood : ∀ y, (a.chan y).state = .good := fun y => by
    rw [Sensor.judgeFull_chan, Sensor.joinPair_state, Sensor.pairing_good h]
  have hjoined : tellPair s.sensor.pairState .channelGood (some x) 0 m s =
      tellPair s.sensor.pairState .channelGood (some x) 0 n s :=
    tellPair_congr hn (fun y => (hstates y).symm) _ _ _ _ s
  rw [takeSample_eq rfl h (m.addPair_eq x _ pr), hn, hwindow, hjoined, tellPair_good hgood, ha,
    Option.isSome_some, hk]
  simp only [fusedSample, Option.map_some, tellPair_setSensor, State.setSensor_setSensor,
    offerReport_setSensor]
  split_ifs <;> rfl

/-! ## The settled obligation -/

/-- Settles O15: the states of the frame's channel, and in GOOD whether a pair forms. -/
theorem sensorFrameTaken : Obligations.SensorFrameTaken := by
  intro x v s hsound m single other own across gone left lost
  have h : s.sensor.Sound := (sensorSound_iff s).1 hsound
  obtain ⟨habsent, -, -⟩ := h.channel x
  have hleft : left =
      pairLost x (decide ((m.chan (otherChannel x)).state = .good)) m.pairState := by
    have hsingle : single = singleOf := rfl
    have hother : other = otherChannel := rfl
    simp only [left, across, hsingle, hother, pairLost, decide_eq_true_eq]
  refine ⟨fun hx => ⟨if_pos hx, ?_⟩, fun hx => ?_, fun hx => ?_, fun hx hbelow => ?_, fun hx => ?_⟩
  · have htaken : (s.sensor.chan x).takeOk = ⟨.settling, 1, none, false, some 25⟩ := by
      rw [habsent hx]
      rfl
    rw [takeSample_below h v (by rw [htaken]; decide), htaken]
  · rw [takeFault_loses (by rw [hx]; decide),
      loseChannel_settling .channelFault (by rw [hx]; decide)]
    rfl
  · rw [takeFault_loses (by rw [hx]; decide), loseChannel_good .channelFault hx]
    simp only [lost, hleft]
    rfl
  · have htaken : (s.sensor.chan x).takeOk =
        ⟨.settling, own.settle + 1, own.latest, own.paired, some 25⟩ := by
      simp [own, m, ChannelRecord.takeOk, hx, not_le.2 hbelow]
    rw [takeSample_below h v (by rw [htaken]; simp), htaken]
  · intro joined stored heard fed
    have hown : ((m.settleChannel x).chan x).state = .good := by
      rw [h.settleChannel_good hx, Sensor.chan_mk, Sensor.setChan_same, h.takeOk_good hx]
    have hstored := h.settleChannel_storeLatest hx v
    have hacross : (m.settleChannel x).chan (otherChannel x) = across :=
      m.settleChannel_other x
    have hheard : ∀ n : Sensor, n.pairState = joined →
        tellPair m.pairState .channelGood (some x) 0 n (s.setSensor n) = heard n := by
      intro n hn
      simp only [heard, tellPair, hn]
      rfl
    have hline : ∀ n : Sensor, n.pairState = joined → (heard n).line = s.line := by
      intro n hn
      rw [← hheard n hn, tellPair_line, State.setSensor_line]
    have hfed : ∀ (value : Int) (q : SampleQuality) (u : State), u.line = s.line →
        deliverSample value q u = fed value q u := by
      intro value q u hu
      rw [deliverSample_eq, hu]
    refine ⟨fun hnone => ?_, fun w hw hgood hfresh hstamp => ?_⟩
    · rw [takeSample_unpaired (Sensor.pairing_none (by rwa [hacross])), hstored, hheard _ rfl]
      dsimp only
      rw [hfed _ _ _ (hline _ rfl)]
      rfl
    · intro pair window sum n judged
      have hpair : (m.settleChannel x).pairing x v = some pair :=
        Sensor.pairing_some hown (by rwa [hacross]) (by rwa [hacross]) (by rwa [hacross]) hstamp
      have hn : (m.takenGood x v true).joinPair x pair = n := by
        rw [Sensor.takenGood_joinPair, pushPair_eq h.window]
        rfl
      rw [takeSample_paired hpair, hstored, hn, hheard n rfl]
      have hjudged : n.judgeFull s.profile.threshold = judged := rfl
      rw [hjudged]
      set u := (heard n).setSensor judged
      have hu : u.line = s.line := hline n rfl
      have ht : ∀ r, (if judged.pairState = n.pairState then u else offerReport r u).line =
          s.line := by
        intro r
        split
        · exact hu
        · rw [offerReport_line, hu]
      dsimp only
      rw [hfed _ _ _ (ht _), hfed _ _ _ (ht _)]
      rfl

end Sys2Proof.Machine
end

section
/-! What keeps a condition on the blocks behind the ports: the ports, the intake unit and the request
executor only carry frames and requests to them, so that a step keeps what every block's own events and
requests keep. -/

set_option Elab.async false

namespace Sys2Proof.Machine

/-! ## Traffic -/

/-- The fields that carrying frames and requests may change. -/
abbrev trafficFields : List Field :=
  [.pins, .nodeAddress, .ports, .counters, .intake, .executor, .book, .pending]

/-- `t` is `s` after frames and requests have been carried: nothing behind the ports differs, nor the
operating state and the notices of R105. -/
structure Traffic (s t : State) : Prop where
  frame : SameBut trafficFields s t
  opState : t.executor.opState = s.executor.opState
  notices : t.book.notices = s.book.notices

theorem Traffic.trans {s t u : State} (h : Traffic s t) (k : Traffic t u) : Traffic s u where
  frame := h.frame.trans k.frame
  opState := k.opState.trans h.opState
  notices := k.notices.trans h.notices

/-- What changes only traffic fields, and neither the executor nor the bookkeeping, is traffic. -/
theorem Traffic.of_frame {fs : List Field} {s t : State} (h : SameBut fs s t)
    (hsub : fs ⊆ trafficFields := by decide)
    (hout : Field.executor ∉ fs ∧ Field.book ∉ fs := by decide) : Traffic s t where
  frame := h.mono hsub
  opState := congrArg Executor.opState (h .executor hout.1)
  notices := congrArg Book.notices (h .book hout.2)

theorem setPending_traffic (s : State) (q : List Instr) : Traffic s (s.setPending q) where
  frame := by intro f hf; cases f <;> first | rfl | simp at hf
  opState := rfl
  notices := rfl

theorem setExecutor_traffic (s : State) (q : List Request) :
    Traffic s (s.setExecutor { s.executor with queue := q }) where
  frame := (setExecutor_frame _ _).mono (by decide)
  opState := rfl
  notices := rfl

theorem setBook_traffic (s : State) (n : Nat) : Traffic s (s.setBook { s.book with choices := n }) where
  frame := (setBook_frame _ _).mono (by decide)
  opState := rfl
  notices := rfl

/-- R171: the taking of the head request. -/
theorem taken_traffic (s : State) (rest : List Request) : Traffic s (s.taken rest) :=
  (setExecutor_traffic s rest).trans (.of_frame (setPorts_frame _ _))

theorem queueRequest_traffic (f : Frame) (accepted : Bool) (s : State) :
    Traffic s (queueRequest f accepted s) := by
  unfold queueRequest
  split
  · exact setExecutor_traffic _ _
  · exact .of_frame (setCounters_frame _ _)

theorem acceptRequest_traffic (f : Frame) (s : State) : Traffic s (acceptRequest f s) := by
  unfold acceptRequest
  split
  · split
    · exact queueRequest_traffic _ _ _
    · split
      · exact .of_frame (.refl [] s)
      · exact (Traffic.of_frame (acceptSeq_frame _ _ _ s)).trans (queueRequest_traffic _ _ _)
  · exact queueRequest_traffic _ _ _

/-- R159: but for traffic, a released part is `State.reset`. -/
theorem releaseReset_traffic (straps : Byte) (s : State) :
    Traffic .reset (releaseReset straps s) where
  frame := by intro f hf; cases f <;> first | rfl | simp at hf
  opState := rfl
  notices := rfl

/-! ## Conditions on the blocks -/

/-- A condition on the blocks behind the ports that holds after a reset, and that every delivered frame,
every timer and every request keeps. -/
structure BlockInvariant (P : State → Prop) : Prop where
  traffic : ∀ {s t}, Traffic s t → P s → P t
  reset : P .reset
  deliver : ∀ role p s, P s → P (deliver role p s)
  odometryExpiry : ∀ s, P s → P (odometryExpiry s)
  channelExpiry : ∀ x s, P s → P (channelExpiry x s)
  commandExpiry : ∀ s, P s → P (commandExpiry s)
  attentionExpiry : ∀ s, P s → P (attentionExpiry s)
  restart : ∀ s, P s → P (restartBlocks s)
  act : ∀ {name : RequestName} {act}, name.act = some act → ∀ p s, P s → P (act p s).2

section
variable {P : State → Prop}

/-- R7: the frame delivered and its copy forwarded, in either order. -/
theorem BlockInvariant.handOver (h : BlockInvariant P) (e : IntakeEntry) (port : Port) (x : Frame)
    {s : State} (hs : P s) : P (handOver e port x s) := by
  have hforward : ∀ t, P t → P (forward port x t) :=
    fun t => h.traffic (.of_frame (forward_frame port x t))
  have hbook := h.traffic (setBook_traffic s (s.book.choices + 1)) hs
  unfold Machine.handOver
  dsimp only
  split
  · split
    · exact hforward _ (h.deliver _ _ _ hs)
    · split
      · exact h.deliver _ _ _ (hforward _ hbook)
      · exact hforward _ (h.deliver _ _ _ hbook)
  · exact h.deliver _ _ _ hs

/-- R1, R6: a frame reaches a block through the entry that it matches, or not at all. -/
theorem BlockInvariant.receiveRun (h : BlockInvariant P) (port : Port) (run : List Byte) {s : State}
    (hs : P s) : P (receiveRun port run s) := by
  have hforward : ∀ x, P (forward port x s) :=
    fun x => h.traffic (.of_frame (forward_frame port x s)) hs
  unfold Machine.receiveRun
  split
  · cases port <;> exact h.traffic (.of_frame (setCounters_frame _ _)) hs
  · unfold intakeFrame
    split
    · split
      · exact h.traffic (acceptRequest_traffic _ _) hs
      · exact hforward _
    · split
      · exact hforward _
      · split
        · unfold matchedFrame
          split
          · exact hs
          · exact h.handOver _ _ _ (h.traffic (.of_frame (acceptSeq_frame _ _ _ _)) hs)
        · exact hforward _

theorem BlockInvariant.event (h : BlockInvariant P) {c : Instr} {g : State → State}
    (hg : eventOf c = some g) {s : State} (hs : P s) : P (g s) := by
  cases c <;> cases hg
  case coldResetAssert => exact h.traffic (.of_frame (assertReset_frame s)) hs
  case coldResetRelease straps => exact h.traffic (releaseReset_traffic straps s) h.reset
  case portFrameReceived port run => exact unlessReset_keeps (h.receiveRun port run hs) hs
  case aftTransmitEnd => exact unlessReset_keeps (h.traffic (.of_frame (aftEnd_frame s)) hs) hs
  case foreTransmitEnd => exact unlessReset_keeps (h.traffic (.of_frame (foreEnd_frame s)) hs) hs
  case odometryTimeout => exact unlessReset_keeps (h.odometryExpiry s hs) hs
  case channelTimeout x => exact unlessReset_keeps (h.channelExpiry x s hs) hs
  case commandTimerExpiry => exact unlessReset_keeps (h.commandExpiry s hs) hs
  case attentionTimerExpiry => exact unlessReset_keeps (h.attentionExpiry s hs) hs
  case unknownRequest =>
    exact serveUnknown_keeps hs (fun _ rest _ => h.traffic (taken_traffic s rest) hs)
      fun r a u => h.traffic (.of_frame (placeReply_frame r a u))

theorem BlockInvariant.served (h : BlockInvariant P) (name : RequestName) {s : State} (hs : P s) :
    P (name.served s) :=
  served_keeps (Q := P) hs (fun _ rest _ => h.traffic (taken_traffic s rest) hs)
    (fun r a u => h.traffic (.of_frame (placeReply_frame r a u)))
    (fun r u => h.traffic (.of_frame (restartQueues_frame r u))) h.restart
    (fun _ _ hact p u hu => h.act hact p u hu) name

theorem BlockInvariant.step (h : BlockInvariant P) {s t : State} (hstep : step s = .next t)
    (hs : P s) : P t :=
  step_keeps (fun s q => h.traffic (setPending_traffic s q)) (fun _ _ _ hg => h.event hg)
    (fun name _ => h.served name) hstep hs

end

end Sys2Proof.Machine
end

section
/-! The history line after every step (R53, R54, R57): the line is reached by fused samples, advances, line
clears and a reset alone, and each of them leaves it sound. -/

set_option Elab.async false

namespace Sys2Proof.Machine

/-! ## The operations of the line -/

/-- R53, R54: the clear mark below the input cell number, that a cell number, the store canonical. -/
structure Line.Sound (l : Line) : Prop where
  mark : l.clearMark ≤ l.inputCell
  cell : l.inputCell ≤ maxCell
  store : l.store.wf

theorem lineSound_iff (s : State) : LineSound s ↔ s.line.Sound :=
  ⟨fun ⟨hmark, hcell, hstore⟩ => ⟨hmark, hcell, hstore⟩, fun h => ⟨h.mark, h.cell, h.store⟩⟩

theorem Line.reset_sound : Line.reset.Sound where
  mark := Nat.le_refl _
  cell := Nat.zero_le _
  store := Store.wf_nil

theorem Line.Sound.setAcc {l : Line} (h : l.Sound) (a : Accumulator) :
    ({ l with acc := a } : Line).Sound := { h with }

/-- R57: an advance cut short. -/
theorem Line.Sound.advance {l : Line} (h : l.Sound) (len limit : Nat) (pair : PairState) (k : Nat) :
    (l.advance len limit pair (l.cut k)).Sound := by
  obtain ⟨hinput, hmark, -, hstore⟩ := l.advance_keeps len limit pair (l.cut k)
  have hm := h.mark
  exact
    { mark := by omega
      cell := by rw [hinput]; exact Line.cut_stays h.cell k
      store := hstore h.store }

theorem Line.Sound.cleared {l : Line} (h : l.Sound) : l.cleared.Sound :=
  { h with mark := Nat.le_refl _ }

/-! ## The line after an operation of the part -/

/-- R57: the answers to an advance leave the line as the advance made it. -/
theorem advance_line (k : Nat) (own : State → Option Report) (s : State) : (advance k own s).line =
    if s.line.cut k = 0 then s.line
    else s.line.advance s.profile.lineLength s.profile.heldLimit s.sensor.pairState
      (s.line.cut k) := by
  unfold advance
  split
  · split
    · exact offerReport_line _ _
    · rfl
  · exact answerAll_frame answerAdvance_frame _ _ _ .line (by decide)

/-- R65: the answers to a line clear leave the line as the clear made it. -/
theorem lineClear_line (own : Option Report) (s : State) :
    (lineClear own s).line = s.line.cleared :=
  answerAll_frame answerClear_frame _ _ _ .line (by decide)

theorem advance_lineSound (k : Nat) (own : State → Option Report) {s : State} (h : s.line.Sound) :
    (advance k own s).line.Sound := by
  rw [advance_line]
  split
  · exact h
  · exact h.advance _ _ _ _

theorem lineClear_lineSound (own : Option Report) {s : State} (h : s.line.Sound) :
    (lineClear own s).line.Sound := by
  rw [lineClear_line]
  exact h.cleared

@[simp] theorem slip_line (s : State) : (slip s).line = s.line := by
  unfold slip
  split
  · rfl
  · exact offerReport_line _ _

@[simp] theorem recover_line (k : Nat) (s : State) : (recover k s).line = s.line := by
  unfold recover
  split
  · split
    · exact offerReport_line _ _
    · rfl
  · rfl

theorem takeDelta_lineSound (delta : Int) {s : State} (h : s.line.Sound) :
    (takeDelta delta s).line.Sound := by
  unfold takeDelta
  split
  · rwa [offerReport_line]
  · split
    · exact h
    · dsimp only
      split
      · exact h
      · exact advance_lineSound _ _ h

theorem takeOdometry_lineSound (d : Distance) (v : Nat) (slipped : Bool) {s : State}
    (h : s.line.Sound) : (takeOdometry d v slipped s).line.Sound := by
  have hslip : ∀ {t}, t.line.Sound → (if slipped then slip t else t).line.Sound := fun ht => by
    split
    · rwa [slip_line]
    · exact ht
  unfold takeOdometry
  split
  case h_1 => exact hslip h
  case h_2 =>
    have hstep := takeDelta_lineSound (counterDiff d (setSpeed v s).odo.lastDistance)
      (s := (setSpeed v s).setOdo
        { (setSpeed v s).odo with timeout := some 100, lastDistance := d }) h
    unfold takeTracking
    dsimp only
    split
    · rwa [slip_line]
    · rwa [recover_line]
  case h_3 => exact hslip (lineClear_lineSound _ h)

theorem handleOdometry_lineSound (p : List Byte) {s : State} (h : s.line.Sound) :
    (handleOdometry p s).line.Sound := by
  unfold handleOdometry
  split
  · exact h
  · split
    · exact takeOdometry_lineSound _ _ _ h
    · split
      · exact takeOdometry_lineSound _ _ _ h
      · exact h

theorem feedCell_lineSound (fused : Option (Int × SampleQuality)) {s : State} (h : s.line.Sound) :
    (feedCell fused s).line.Sound := by
  cases fused with
  | none => exact h
  | some sample => exact h.setAcc _

theorem takeSample_lineSound (x : Channel) (v : Sample) {s : State} (h : s.line.Sound) :
    (takeSample x v s).line.Sound := by
  rw [takeSample_eq rfl rfl rfl]
  refine feedCell_lineSound _ ?_
  rwa [tellPair_line, tellPair_line]

theorem loseChannel_line (x : Channel) (c : SensorCause) (s : State) :
    (loseChannel x c s).line = s.line := reportPair_frame _ _ _ _ _ .line (by decide)

theorem handleSensor_lineSound (x : Channel) (p : List Byte) {s : State} (h : s.line.Sound) :
    (handleSensor x p s).line.Sound := by
  unfold handleSensor
  split
  · exact h
  · split
    · exact takeSample_lineSound _ _ h
    · split
      · unfold takeFault
        split
        · exact h
        · rwa [loseChannel_line]
      · exact h

theorem deliver_lineSound (role : Role) (p : List Byte) {s : State} (h : s.line.Sound) :
    (deliver role p s).line.Sound := by
  cases role with
  | sensorP => exact handleSensor_lineSound .p p h
  | sensorQ => exact handleSensor_lineSound .q p h
  | odometry => exact handleOdometry_lineSound p h
  | markerReader => exact (congrArg Line.Sound (handleMarker_frame p s .line (by decide))).mpr h
  | unitStatus => exact (congrArg Line.Sound (handleUnitStatus_frame p s .line (by decide))).mpr h
  | manager => exact h

theorem odometryExpiry_line (s : State) : (odometryExpiry s).line = s.line := by
  unfold odometryExpiry
  split
  · exact offerReport_line _ _
  · rfl

theorem channelExpiry_line (x : Channel) (s : State) : (channelExpiry x s).line = s.line := by
  unfold channelExpiry
  split
  · exact loseChannel_line _ _ _
  · rfl

/-- R158: a warm restart clears the line, and its other blocks leave it alone. -/
theorem restartBlocks_line (s : State) : (restartBlocks s).line = s.line.cleared := by
  have hcars : (forCars restartCar (setOpState .safe s)).line = s.line :=
    forCars_frame (fun c t => setChannel_frame c _ t) _ .line (by decide)
  have hblocks : ∀ u, (restartDemand (restartSensor (restartOdometry u))).line = u.line :=
    fun _ => rfl
  have hmarker : ∀ u, (restartMarker u).line = u.line := fun _ => rfl
  unfold restartBlocks
  dsimp only
  rw [hmarker, lineClear_line, hblocks, hcars]

theorem actSetLineProfile_lineSound (p : List Byte) {s : State} (h : s.line.Sound) :
    (actSetLineProfile p s).2.line.Sound := by
  unfold actSetLineProfile
  split
  · exact h
  · split
    · exact h
    · rw [done_snd]
      unfold writeProfile
      split
      · exact h
      · exact lineClear_lineSound _ h

/-- R55: no request but Set Line Profile, and Warm Restart by itself, changes the line. -/
theorem act_lineSound {name : RequestName} {act : List Byte → State → Reply × State}
    (hact : name.act = some act) (p : List Byte) {s : State} (h : s.line.Sound) :
    (act p s).2.line.Sound := by
  by_cases hname : name = .setLineProfile ∨ name = .warmRestart
  · rcases hname with rfl | rfl <;> cases hact
    exact actSetLineProfile_lineSound p h
  · refine (congrArg Line.Sound (act_frame hact p s .line ?_)).mpr h
    revert hname
    cases name <;> decide

/-! ## The settled obligation -/

theorem lineSound_invariant : BlockInvariant (fun s => s.line.Sound) where
  traffic := fun h => (congrArg Line.Sound (h.frame .line (by decide))).mpr
  reset := Line.reset_sound
  deliver := fun role p _ h => deliver_lineSound role p h
  odometryExpiry := fun s => (congrArg Line.Sound (odometryExpiry_line s)).mpr
  channelExpiry := fun x s => (congrArg Line.Sound (channelExpiry_line x s)).mpr
  commandExpiry := fun s => (congrArg Line.Sound (commandExpiry_frame s .line (by decide))).mpr
  attentionExpiry := fun s => (congrArg Line.Sound (attentionExpiry_frame s .line (by decide))).mpr
  restart := fun s h => (congrArg Line.Sound (restartBlocks_line s)).mpr h.cleared
  act := fun hact p _ h => act_lineSound hact p h

/-- Settles O50: samples touch the accumulator alone, an advance is cut at the largest cell number, and a
line clear raises the clear mark to the input cell number and no further. -/
theorem lineStaysSound : Obligations.LineStaysSound := by
  intro s t hs hstep
  rw [lineSound_iff] at hs ⊢
  exact lineSound_invariant.step hstep hs

end Sys2Proof.Machine
end

section
/-! An advance and a line clear of the history line (R57 to R62, R65): what every cell reads before and
after. -/

set_option Elab.async false

namespace Sys2Proof.Machine

/-! ## The open cell closed -/

theorem Accumulator.quality_eq (a : Accumulator) :
    a.quality = if a.worst = some .single then .single else .dual := by
  unfold Accumulator.quality
  split
  · rename_i h
    exact (if_pos h).symm
  · rename_i h
    exact (if_neg h).symm

theorem Line.openRecord_cell (l : Line) (len limit : Nat) (pair : PairState) :
    (l.openRecord len limit pair).1.cell = l.inputCell := by
  unfold Line.openRecord closedEmpty
  split_ifs <;> rfl

/-- R58: an open cell with samples. -/
theorem Line.openRecord_samples {l : Line} (h : 1 ≤ l.acc.count) (len limit : Nat)
    (pair : PairState) : (l.openRecord len limit pair).1 = closedWithSamples l.inputCell l.acc := by
  rw [Line.openRecord, if_pos h]

theorem closedEmpty_record (cell : Int) (before : CellRecord) (pair : PairState) (limit run : Nat) :
    (closedEmpty cell before pair limit run).1 =
      if pair = .disagree ∨ pair = .none ∨ before.quality = .void ∨ limit ≤ run then .void cell
      else heldRecord cell before := by
  unfold closedEmpty
  by_cases hpair : pair = .disagree ∨ pair = .none
  · rw [if_pos hpair, if_pos (hpair.imp_right .inl)]
  · rw [if_neg hpair]
    by_cases hvoid : before.quality = .void
    · rw [if_pos hvoid, if_pos (.inr (.inr (.inl hvoid)))]
    · by_cases hlimit : limit ≤ run
      · rw [if_neg hvoid, if_pos hlimit, if_pos (.inr (.inr (.inr hlimit)))]
      · rw [if_neg hvoid, if_neg hlimit, if_neg (by tauto)]

theorem closedEmpty_run (cell : Int) (before : CellRecord) (pair : PairState) (limit run : Nat) :
    (closedEmpty cell before pair limit run).2 =
      if (closedEmpty cell before pair limit run).1.quality = .held then run + 1 else run := by
  unfold closedEmpty
  split
  · rfl
  · split
    · rfl
    · split
      · rfl
      · rfl

/-- R59: an open cell without samples. -/
theorem Line.openRecord_empty {l : Line} (h : l.acc.count = 0) (len limit : Nat)
    (pair : PairState) : l.openRecord len limit pair =
      closedEmpty l.inputCell (l.tapRead len ((l.inputCell : Int) - 1)) pair limit l.heldRun := by
  rw [Line.openRecord, if_neg (by omega)]

/-- R58, R59: the held-run count is 0 after a cell with samples, one higher after a HELD cell, and else
as it was. -/
theorem Line.openRecord_run (l : Line) (len limit : Nat) (pair : PairState) :
    (l.openRecord len limit pair).2 =
      if 1 ≤ l.acc.count then 0
      else if (l.openRecord len limit pair).1.quality = .held then l.heldRun + 1 else l.heldRun := by
  unfold Line.openRecord
  by_cases h : 1 ≤ l.acc.count
  · rw [if_pos h, if_pos h]
  · rw [if_neg h, if_neg h]
    exact closedEmpty_run _ _ _ _ _

/-! ## Skipped cells -/

/-- R60: each HELD cell raises the held-run count by one, up to the limit; above a VOID cell none is
HELD. -/
theorem Line.closeSkipped_heldRun (len limit n : Nat) (cell : Int) (below : CellRecord) (l : Line) :
    (Line.closeSkipped len limit n cell below l).heldRun =
      if below.quality = .void then l.heldRun else l.heldRun + min n (limit - l.heldRun) := by
  induction n generalizing cell below l with
  | zero => simp [Line.closeSkipped]
  | succ n ih =>
    simp only [Line.closeSkipped, ih, closedSkipped]
    by_cases hvoid : below.quality = .void
    · simp [hvoid, CellRecord.void]
    · by_cases hlimit : limit ≤ l.heldRun
      · simp [hvoid, hlimit, CellRecord.void]
      · simp [hvoid, hlimit, heldRecord]
        omega

/-! ## Reads -/

/-- R62: a cell below the clear mark, above the newest closed cell or a line length below it. -/
theorem Line.tapRead_void {l : Line} {len : Nat} {n : Int}
    (h : n < l.clearMark ∨ (l.inputCell : Int) ≤ n ∨ n ≤ (l.inputCell : Int) - 1 - len) :
    l.tapRead len n = .void n := by
  refine if_neg ?_
  simp only [Line.readable, Bool.and_eq_true, decide_eq_true_eq]
  simp only [Line.newest]
  omega

/-- R65: after a line clear no cell is readable. -/
theorem Line.cleared_tapRead (l : Line) (len : Nat) (n : Int) :
    l.cleared.tapRead len n = .void n := by
  rcases lt_or_ge n (l.inputCell : Int) with hbelow | habove
  · exact Line.tapRead_void (.inl hbelow)
  · exact Line.tapRead_void (.inr (.inl habove))

theorem Line.advance_heldRun (l : Line) (len limit : Nat) (pair : PairState) (k : Nat) :
    let x := l.openRecord len limit pair
    (l.advance len limit pair k).heldRun =
      if x.1.quality = .void then x.2 else x.2 + min (k - 1) (limit - x.2) :=
  Line.closeSkipped_heldRun len limit (k - 1) _ _ _

section
variable {l : Line} {len k : Nat}

/-- R57 steps 1 and 2: the slots after an advance: the open cell's, those of the skipped cells, and
those of the cells above the ones whose slots have been taken. -/
theorem Line.advance_read (limit : Nat) (pair : PairState) (hstore : l.store.wf) (hk : 1 ≤ k)
    (hlen : k ≤ len) :
    let x := l.openRecord len limit pair
    let st := (l.advance len limit pair k).store
    st.read (slotOf len l.inputCell) = x.1 ∧
    (∀ i : Nat, 1 ≤ i → i < k → st.read (slotOf len ((l.inputCell : Int) + i)) =
      if x.1.quality ≠ .void ∧ x.2 + i ≤ limit then heldRecord ((l.inputCell : Int) + i) x.1
      else .void ((l.inputCell : Int) + i)) ∧
    ∀ n : Int, n < l.inputCell → (l.inputCell : Int) + k ≤ n + len →
      st.read (slotOf len n) = l.store.read (slotOf len n) := by
  intro x st
  have hput : (l.put len x.1).store = l.store.write (slotOf len l.inputCell) x.1 := by
    rw [← l.openRecord_cell len limit pair]
    rfl
  obtain ⟨hkept, hskipped⟩ := Line.closeSkipped_read (len := len) limit (by omega) (k - 1)
    ((l.inputCell : Int) + 1) x.1 { l.put len x.1 with heldRun := x.2 } (Line.put_wf len _ hstore)
    (by omega)
  refine ⟨?_, fun i hi hik => ?_, fun n hn hnk => ?_⟩
  · refine (hkept _ (by omega) (by omega)).trans ?_
    rw [hput, Store.read_write_same _ _ hstore]
  · obtain ⟨j, rfl⟩ : ∃ j, i = j + 1 := ⟨i - 1, by omega⟩
    have hcell : (l.inputCell : Int) + ((j + 1 : Nat) : Int) = (l.inputCell : Int) + 1 + j := by
      omega
    rw [hcell]
    exact hskipped j (by omega)
  · refine (hkept n (by omega) (by omega)).trans ?_
    rw [hput, Store.read_write_other _ hstore (slotOf_ne (by omega) hn (by omega))]

/-- R62: an advance makes every cell that it closed, and every older one above the clear mark whose slot
it has not taken, readable. -/
theorem Line.advance_tapRead (limit : Nat) (pair : PairState) {n : Int}
    (hmark : (l.clearMark : Int) ≤ n) (hnew : n < (l.inputCell : Int) + k)
    (hold : (l.inputCell : Int) + k ≤ n + len) :
    (l.advance len limit pair k).tapRead len n =
      (l.advance len limit pair k).store.read (slotOf len n) := by
  obtain ⟨hinput, hclear, -, -⟩ := l.advance_keeps len limit pair k
  refine Line.tapRead_of ?_ ?_ ?_
  · rwa [hclear]
  · rw [hinput]; omega
  · rw [hinput]; omega

end

/-! ## The settled obligation -/

/-- Settles O17: the slots that an advance writes, read back; and the limits of a read. -/
theorem lineAdvancesAndClears : Obligations.LineAdvancesAndClears := by
  refine ⟨fun l len limit pair k hstore hmark hk hlen => ?_, fun _ _ => rfl,
    fun l len n => ⟨Line.tapRead_void, l.cleared_tapRead len n, rfl⟩⟩
  intro before t closed run
  obtain ⟨hopen, hskipped, hkept⟩ := Line.advance_read limit pair hstore hk hlen
  have hclosed : closed = (l.openRecord len limit pair).1 :=
    (Line.advance_tapRead limit pair (by omega) (by omega) (by omega)).trans hopen
  have hrun : run = (l.openRecord len limit pair).2 := by
    rw [Line.openRecord_run, ← hclosed]
  refine ⟨?_, fun h => ?_, fun h => ?_, fun i hi hik => ?_, fun n hn hnew hold => ?_⟩
  · obtain ⟨hinput, hclear, hacc, hwf⟩ := l.advance_keeps len limit pair k
    refine ⟨hinput, hclear, hwf hstore, hacc, ?_⟩
    rw [hclosed, hrun]
    exact l.advance_heldRun len limit pair k
  · rw [hclosed, Line.openRecord_samples h, closedWithSamples, Accumulator.quality_eq]
  · rw [hclosed, Line.openRecord_empty h, closedEmpty_record]
    rfl
  · rw [hclosed, hrun]
    exact (Line.advance_tapRead limit pair (by omega) (by omega) (by omega)).trans
      (hskipped i hi hik)
  · have hslot : (l.inputCell : Int) + k ≤ n + len := by
      have hinput : t.inputCell = l.inputCell + k := rfl
      omega
    rw [Line.tapRead_of hn (by omega) (by omega), ← hkept n hnew hslot]
    exact Line.advance_tapRead limit pair hn (by omega) hslot

end Sys2Proof.Machine
end

section
/-! The answers of the marker unit, the route store and the capture unit to an advance and to a line clear
(R57 step 4, R65, R66, R89, R104, R108, R164, R166). -/

set_option Elab.async false

namespace Sys2Proof.Machine

/-! ## The open order -/

/-- Every order names the three blocks once each. -/
theorem orderTasks_perm (o : AnswerOrder) : (orderTasks o).Perm [.marker, .route, .capture] := by
  cases o <;> decide

/-- The cause's report stands somewhere among the three answers, where there is one. -/
theorem arrange_perm (o : AnswerOrder) (place : Nat) (own : Option Report) :
    (arrange o place own).Perm ([.marker, .route, .capture] ++ own.toList.map .report) := by
  cases own with
  | none => exact orderTasks_perm o
  | some r =>
    have hlast : (arrange o place (some r)).Perm (orderTasks o ++ [.report r]) := by
      simp only [arrange, List.append_assoc]
      refine (List.perm_append_comm.append_left _).trans ?_
      rw [← List.append_assoc, List.take_append_drop]
    exact hlast.trans ((orderTasks_perm o).append_right _)

theorem runTasks_eq (answer : Task → State → State) (ts : List Task) (s : State) :
    runTasks answer ts s = (ts.map answer).foldl (fun t a => a t) s := by
  rw [List.foldl_map]
  rfl

/-- R104, R108, R167, R175: each task is performed once, on a state in which at most one open choice
more is counted. -/
theorem answerAll_perm (answer : Task → State → State) (due : Nat) (own : Option Report)
    (s : State) : ∃ (n : Nat) (answers : List (State → State)),
      (n = s.book.choices ∨ n = s.book.choices + 1) ∧
      answers.Perm ([answer .marker, answer .route, answer .capture] ++
        own.toList.map (fun r => answer (.report r))) ∧
      answerAll answer due own s =
        answers.foldl (fun t a => a t) (s.setBook { s.book with choices := n }) := by
  have hperm : ∀ o place, ((arrange o place own).map answer).Perm
      ([answer .marker, answer .route, answer .capture] ++
        own.toList.map (fun r => answer (.report r))) := fun o place => by
    simpa [Function.comp_def] using (arrange_perm o place own).map answer
  unfold answerAll
  split
  · exact ⟨_, _, .inr rfl, hperm _ _, runTasks_eq _ _ _⟩
  · exact ⟨s.book.choices, _, .inl rfl, hperm _ _, runTasks_eq _ _ _⟩

/-! ## The capture unit and the route store -/

theorem overtakingTest_eq (s : State) : overtakingTest s =
    if s.capture.state = .ready ∧
        s.capture.cursor < s.line.newest - (s.profile.lineLength : Int) + 1 then
      offerCapture .overtaken none (s.setCapture { s.capture with state := .overtaken })
    else s := by
  simp only [overtakingTest, State.overtakenNow, Bool.and_eq_true, decide_eq_true_eq]

theorem BankState.inSection_iff (x : BankState) :
    x.inSection = true ↔ x = .inUse ∨ x = .draining := by
  cases x <;> decide

/-- R108, R112: a bank whose section lies on the line becomes FREE, its report formed after that. -/
theorem freeCleared_eq (bank : Bank) (s : State) : freeCleared bank s =
    let b := s.route.bank bank
    let route := s.route.setBank bank { b with state := .free }
    if b.state = .inUse ∨ b.state = .draining then
      offerReport (.route .freed bank b.sectionId b.startNat b.endCell (some .lineClear) none
        route.a.state route.b.state s.line.newest) (s.setRoute route)
    else s := by
  dsimp only
  unfold freeCleared
  simp only [BankState.inSection_iff]
  congr 1
  cases bank <;> rfl

/-! ## The marker unit -/

theorem offerReport_setMarker (r : Report) (m : MarkerUnit) (s : State) :
    offerReport r (s.setMarker m) = (offerReport r s).setMarker m := by
  rcases offerReport_cases r s with ⟨h, e⟩ | ⟨h, e⟩
  · rw [e, offerReport, if_pos (by exact h)]
    rfl
  · rw [e, offerReport, if_neg (by rw [State.setMarker_ports]; omega)]
    rfl

theorem offerReport_marker (r : Report) (s : State) : (offerReport r s).marker = s.marker :=
  offerReport_frame r s .marker (by decide)

/-- A car regime record that waits on no marker. -/
def CarRegime.released (x : CarRegime) : CarRegime := { x with waiting := none }

theorem foldl_stopWaiting (l : List Car) (s : State) :
    ∃ cars, l.foldl (fun t c => stopWaiting c t) s = s.setMarker { s.marker with cars := cars } ∧
      ∀ c : Car, cars[c] = if c ∈ l then (s.regime c).released else s.regime c := by
  induction l generalizing s with
  | nil => exact ⟨s.marker.cars, rfl, fun c => by simp [State.regime]⟩
  | cons d l ih =>
    obtain ⟨cars, hfold, hcars⟩ := ih (stopWaiting d s)
    refine ⟨cars, hfold, fun c => ?_⟩
    rw [hcars c]
    by_cases hc : c = d
    · subst hc
      have hsame : (stopWaiting c s).regime c = (s.regime c).released := setRegime_same _ _ _
      simp [hsame, CarRegime.released]
    · have hother : (stopWaiting d s).regime c = s.regime c := setRegime_other _ _ hc
      simp [hother, hc]

/-- R89: every waiting field none, and nothing else. -/
theorem forCars_stopWaiting (s : State) : forCars stopWaiting s =
    s.setMarker { s.marker with cars := s.marker.cars.map CarRegime.released } := by
  obtain ⟨cars, hfold, hcars⟩ := foldl_stopWaiting allCars s
  have hmap : cars = s.marker.cars.map CarRegime.released := by
    refine Vector.ext fun i hi => ?_
    have h := hcars ⟨i, hi⟩
    rw [if_pos (mem_allCars _)] at h
    simpa [State.regime] using h
  rw [forCars, hfold, hmap]

/-- R81, R84: with no marker queued a pass does nothing. -/
theorem pass_of_empty {s : State} (underWay : Bool) (h : s.marker.queue = []) :
    pass underWay s = s := by
  have hcars : forCars (passCar underWay) s = s := by
    refine forCars_keeps (p := fun t => t = s) (fun c t ht => ?_) s rfl
    rw [ht, passCar, h]
    exact ite_self _
  rw [pass, hcars, arbiter, h]
  split
  · rename_i hserve
    cases hserve
  · rfl

/-- The marker unit with an empty queue, an empty record and no car waiting (R89). -/
def MarkerUnit.emptied (m : MarkerUnit) : MarkerUnit :=
  { m with queue := [], attention := none, cars := m.cars.map CarRegime.released }

/-- R89: the queue and the record emptied, no car left waiting, and the hold, if any, withdrawn. -/
theorem markerClear_eq (s : State) : markerClear s =
    let emptied := s.setMarker s.marker.emptied
    s.marker.attention.elim emptied fun hold =>
      offerReport (.attentionEnd .withdrawn hold.serial hold.car (s.regime hold.car).regime
        (s.regime hold.car).authority) emptied := by
  have hpass : ∀ u, u.marker.queue = [] →
      pass false (forCars stopWaiting u) = forCars stopWaiting u := fun u hu =>
    pass_of_empty false (by rw [forCars_stopWaiting]; exact hu)
  unfold markerClear withdraw
  cases h : s.marker.attention with
  | none =>
    simp only [setQueue, State.setMarker_marker, h]
    rw [hpass _ rfl, forCars_stopWaiting, MarkerUnit.emptied]
    rfl
  | some hold =>
    simp only [setQueue, State.setMarker_marker, h]
    rw [offerAttentionEnd, hpass _ (by rw [offerReport_marker]; rfl), forCars_stopWaiting,
      offerReport_marker, ← offerReport_setMarker]
    rfl

theorem MarkerUnit.emptied_regime (s : State) (car : Car) :
    s.marker.emptied.cars[car] = (s.regime car).released := by
  simp [MarkerUnit.emptied, State.regime]

/-! ## The settled obligation -/

/-- Settles O18: the tasks of an advance and of a line clear are a permutation of the three answers and the
report of the cause, and each answer has its closed form. -/
theorem lineIsAnswered : Obligations.LineIsAnswered := by
  refine ⟨fun k own s => ?_, fun own s => ?_, fun s => ?_⟩
  · intro cells u
    refine ⟨fun h => ?_, fun h => ?_⟩
    · rw [advance, if_pos (show s.line.cut k = 0 from h)]
      cases own s <;> rfl
    · obtain ⟨n, answers, hn, hperm, heq⟩ :=
        answerAll_perm answerAdvance (u.advanceDue (own u)) (own u) u
      refine ⟨n, answers, hn, hperm, ?_⟩
      rw [advance, if_neg (show ¬ s.line.cut k = 0 from h)]
      exact heq
  · exact answerAll_perm answerClear _ own (s.setLine s.line.cleared)
  · intro newest c report
    refine ⟨overtakingTest_eq s, rfl, ?_, ?_⟩
    · intro frees
      have hline : (freeCleared .a s).line = s.line := freeCleared_frame .a s .line (by decide)
      rw [routeClear, freeCleared_eq .b, hline, freeCleared_eq .a]
      rfl
    · refine ⟨markerClear s, rfl, ?_⟩
      have hmarker : (markerClear s).marker = s.marker.emptied := by
        rw [markerClear_eq]
        cases s.marker.attention with
        | none => rfl
        | some hold => exact offerReport_marker _ _
      refine ⟨fun car => ?_, ?_⟩
      · rw [State.regime, hmarker, MarkerUnit.emptied_regime]
        rfl
      · intro emptied
        have hemptied : emptied = s.setMarker s.marker.emptied := by
          simp only [emptied, hmarker]
          rfl
        rw [hemptied, markerClear_eq]
        refine ⟨fun h => ?_, fun hold h => ?_⟩
        · rw [h]
          rfl
        · rw [Option.mem_def] at h
          rw [h]
          rfl

end Sys2Proof.Machine
end

section
/-! Passes of the marker queue (R81 to R84, R162): what applying an entry does, one car's turn in a pass, the
arbiter, and what no pass leaves due. -/

set_option Elab.async false

namespace Sys2Proof.Machine

/-! ## Markers that leave the queue -/

/-- The banks of the markers that no car holds, from head to tail of the queue (R75). -/
def State.emptiedBanks (s : State) : List Bank :=
  (s.marker.queue.filter (fun m => m.pending.isEmpty)).filterMap (·.bank)

/-- The state with the markers that no car holds taken from the queue (R75). -/
def State.thinned (s : State) : State :=
  setQueue (s.marker.queue.filter (fun m => !m.pending.isEmpty)) s

/-- R75: the emptied markers leave the queue, and the route store is told of their banks in turn. -/
theorem dropEmptied_eq (w : Bool) (s : State) :
    dropEmptied w s = s.emptiedBanks.foldl (fun t bank => tellRoute w bank t) s.thinned := by
  have key : ∀ (gone : List Marker) (t : State),
      gone.foldl (fun t m => match m.bank with
        | some bank => tellRoute w bank t
        | none => t) t =
      (gone.filterMap (·.bank)).foldl (fun t bank => tellRoute w bank t) t := by
    intro gone t
    rw [List.foldl_filterMap]
    congr 1
    funext t m
    cases m.bank <;> rfl
  exact key _ _

/-- What a notice to the route store may change. -/
abbrev noticeFields : List Field := [.ports, .counters, .route, .book]

theorem tellRoute_notice (w : Bool) (bank : Bank) (s : State) :
    SameBut noticeFields s (tellRoute w bank s) :=
  .ite ((setBook_frame _ _).mono (by decide)) ((freePassed_frame _ _).mono (by decide))

theorem dropEmptied_notice (w : Bool) (s : State) :
    SameBut noticeFields s.thinned (dropEmptied w s) := by
  rw [dropEmptied_eq]
  exact SameBut.foldl (fun t bank => tellRoute_notice w bank t) _ _

theorem dropEmptied_capture (w : Bool) (s : State) : (dropEmptied w s).capture = s.capture :=
  dropEmptied_notice w s .capture (by decide)

theorem offerReport_missed (r : Report) (s : State) :
    (offerReport r s).counters.capturesMissed = s.counters.capturesMissed := by
  rcases offerReport_cases r s with ⟨-, e⟩ | ⟨-, e⟩ <;> rw [e] <;> rfl

theorem tellRoute_missed (w : Bool) (bank : Bank) (s : State) :
    (tellRoute w bank s).counters.capturesMissed = s.counters.capturesMissed := by
  cases w
  · exact offerReport_missed _ _
  · rfl

theorem dropEmptied_missed (w : Bool) (s : State) :
    (dropEmptied w s).counters.capturesMissed = s.counters.capturesMissed := by
  have key : ∀ (banks : List Bank) (t : State),
      (banks.foldl (fun t bank => tellRoute w bank t) t).counters.capturesMissed =
        t.counters.capturesMissed := by
    intro banks
    induction banks with
    | nil => exact fun t => rfl
    | cons bank banks ih => exact fun t => (ih _).trans (tellRoute_missed w bank t)
  rw [dropEmptied_eq]
  exact key _ _

/-- R105: while a section end is under way the notices are kept in the model's own field. -/
theorem dropEmptied_true_eq (s : State) :
    dropEmptied true s =
      s.thinned.setBook { s.book with notices := s.book.notices ++ s.emptiedBanks } := by
  have key : ∀ (banks : List Bank) (t : State),
      banks.foldl (fun t bank => tellRoute true bank t) t =
        t.setBook { t.book with notices := t.book.notices ++ banks } := by
    intro banks
    induction banks with
    | nil => exact fun t => by rw [List.foldl_nil, List.append_nil, State.setBook_self]
    | cons bank banks ih =>
      intro t
      rw [List.foldl_cons, ih]
      simp [tellRoute]
  rw [dropEmptied_eq]
  exact key _ _

theorem dropEmptied_true_frame (s : State) : SameBut [.marker, .book] s (dropEmptied true s) := by
  rw [dropEmptied_true_eq]
  exact ((setQueue_frame _ _).mono (by decide)).trans ((setBook_frame _ _).mono (by decide))

theorem dropEmptied_false_frame (s : State) :
    SameBut [.ports, .counters, .route, .marker] s (dropEmptied false s) := by
  rw [dropEmptied_eq]
  exact ((setQueue_frame _ _).mono (by decide)).trans
    (SameBut.foldl (fun t bank => (freePassed_frame bank t).mono (by decide)) _ _)

/-! ## An entry applied -/

/-- R82 without its capture flag: the car takes the regime and the authority and leaves the pending set,
and a marker that this empties leaves the queue. -/
def State.applied (w : Bool) (c : Car) (n : Nat) (e : RegimeEntry) (s : State) : State :=
  dropEmptied w (s.setMarker
    { s.marker with
      cars := s.marker.cars.set c { s.regime c with regime := e.next, authority := e.authority },
      queue := s.marker.queue.map (Marker.without c n) })

theorem applyEntry_eq (w : Bool) (c : Car) (n : Nat) (e : RegimeEntry) (s : State) :
    applyEntry w c n e s =
      if e.capture then regimeTrigger c n (s.applied w c n e) else s.applied w c n e := rfl

theorem applied_frame (w : Bool) (c : Car) (n : Nat) (e : RegimeEntry) (s : State) :
    SameBut answerFields s (s.applied w c n e) :=
  ((setMarker_frame _ _).mono (by decide)).trans (dropEmptied_frame _ _)

theorem CapState.accepts_iff (x : CapState) : x.accepts = true ↔ x = .idle ∨ x = .done := by
  cases x <;> decide

/-- The capture that a regime trigger begins (R161, R162). -/
def State.regimeCapture (c : Car) (n : Nat) (s : State) : Capture :=
  { state := .ready, mode := .relative, source := .regime, car := some c, serial := some n,
    start := (s.line.inputCell : Int) - s.profile.captureLength, stop := s.line.inputCell,
    cursor := (s.line.inputCell : Int) - s.profile.captureLength }

/-- R162: a regime trigger that the capture unit accepts. -/
theorem regimeTrigger_begins {c : Car} {n : Nat} {s : State} (h : s.capture.state.accepts = true) :
    regimeTrigger c n s =
      offerReport (.capture .triggered .regime (some c) (some n) (some (s.regimeCapture c n)) none
        s.line.newest s.counters.capturesMissed) (s.setCapture (s.regimeCapture c n)) := by
  rw [regimeTrigger, if_pos h]
  rfl

/-- R162: a regime trigger that is missed. -/
theorem regimeTrigger_misses {c : Car} {n : Nat} {s : State} (h : s.capture.state.accepts = false) :
    regimeTrigger c n s =
      offerReport (.capture .missed .regime (some c) (some n) none none s.line.newest
          (bump s.counters.capturesMissed))
        (s.setCounters { s.counters with capturesMissed := bump s.counters.capturesMissed }) := by
  rw [regimeTrigger, if_neg (by simp [h])]
  rfl

/-- What the regime trigger reads is what it was before the entry was applied. -/
theorem applied_reads (w : Bool) (c : Car) (n : Nat) (e : RegimeEntry) (s : State) :
    (s.applied w c n e).capture = s.capture ∧ (s.applied w c n e).line = s.line ∧
      (s.applied w c n e).profile = s.profile ∧
      (s.applied w c n e).counters.capturesMissed = s.counters.capturesMissed :=
  ⟨dropEmptied_capture _ _, applied_frame w c n e s .line (by decide),
    applied_frame w c n e s .profile (by decide), dropEmptied_missed _ _⟩

theorem applyEntry_triggers {c : Car} {n : Nat} {e : RegimeEntry} {s : State} (w : Bool)
    (he : e.capture = true) (h : s.capture.state.accepts = true) :
    applyEntry w c n e s =
      offerReport (.capture .triggered .regime (some c) (some n) (some (s.regimeCapture c n)) none
        s.line.newest s.counters.capturesMissed)
        ((s.applied w c n e).setCapture (s.regimeCapture c n)) := by
  obtain ⟨hcapture, hline, hprofile, hmissed⟩ := applied_reads w c n e s
  rw [applyEntry_eq, if_pos he, regimeTrigger_begins (by rwa [hcapture])]
  simp only [State.regimeCapture, hline, hprofile, hmissed]

theorem applyEntry_misses {c : Car} {n : Nat} {e : RegimeEntry} {s : State} (w : Bool)
    (he : e.capture = true) (h : s.capture.state.accepts = false) :
    applyEntry w c n e s =
      offerReport (.capture .missed .regime (some c) (some n) none none s.line.newest
          (bump s.counters.capturesMissed))
        ((s.applied w c n e).setCounters
          { (s.applied w c n e).counters with
            capturesMissed := bump s.counters.capturesMissed }) := by
  obtain ⟨hcapture, hline, -, hmissed⟩ := applied_reads w c n e s
  rw [applyEntry_eq, if_pos he, regimeTrigger_misses (by rwa [hcapture]), hline, hmissed]

/-! ## One car's turn -/

/-- The oldest queued marker that holds a car (R81). -/
def State.oldest (s : State) (c : Car) : Option Marker :=
  s.marker.queue.find? (fun m => m.pending.contains c)

/-- Only the markers that hold the car play a part in its turn. -/
theorem carPass_filter (w : Bool) (c : Car) (q : List Marker) (s : State) :
    carPass w c q s = carPass w c (q.filter (fun m => m.pending.contains c)) s := by
  induction q generalizing s with
  | nil => rfl
  | cons m q ih =>
    by_cases h : c ∈ m.pending
    · rw [List.filter_cons_of_pos (by simpa using h), carPass, carPass, ← ih s]
      simp only [← ih]
    · rw [List.filter_cons_of_neg (by simpa using h), ← ih, carPass, if_neg h]

@[simp] theorem applyEntry_enabled (w : Bool) (c d : Car) (n : Nat) (e : RegimeEntry) (s : State) :
    (applyEntry w c n e s).enabled d = s.enabled d := by
  have h : (applyEntry w c n e s).demand = s.demand := applyEntry_frame w c n e s .demand (by decide)
  simp only [State.enabled, State.carProfile, h]

theorem applyEntry_regime_same (w : Bool) (c : Car) (n : Nat) (e : RegimeEntry) (s : State) :
    (applyEntry w c n e s).regime c =
      { s.regime c with regime := e.next, authority := e.authority } := by
  rw [State.regime, applyEntry_marker]
  exact vector_set_same _ _ _

theorem applyEntry_regime_other (w : Bool) {c d : Car} (n : Nat) (e : RegimeEntry) (s : State)
    (h : d ≠ c) : (applyEntry w c n e s).regime d = s.regime d := by
  rw [State.regime, applyEntry_marker]
  exact vector_set_other _ _ h

/-- The serials of the queue, head first. -/
def State.serials (s : State) : List Nat := s.marker.queue.map (·.serial)

theorem Marker.without_same {c : Car} {n : Nat} {m : Marker} (h : m.serial = n) :
    c ∉ (m.without c n).pending := by simp [Marker.without, h]

theorem Marker.without_other {c : Car} {n : Nat} {m : Marker} (h : m.serial ≠ n) :
    m.without c n = m := if_neg h

/-- R82: with no serial twice, the car that applies its oldest marker is left with its later ones. -/
theorem applyEntry_holding {c : Car} {m : Marker} {rest : List Marker} {s : State} (w : Bool)
    (e : RegimeEntry) (hserials : s.serials.Nodup)
    (h : s.marker.queue.filter (fun m => m.pending.contains c) = m :: rest) :
    (applyEntry w c m.serial e s).marker.queue.filter (fun m => m.pending.contains c) = rest := by
  have hfilter : ∀ q : List Marker,
      ((q.map (Marker.without c m.serial)).filter (fun m => !m.pending.isEmpty)).filter
          (fun m => m.pending.contains c) =
        (q.filter (fun m => m.pending.contains c)).filter (fun x => x.serial ≠ m.serial) := by
    intro q
    induction q with
    | nil => rfl
    | cons x q ih =>
      rw [List.filter_filter] at ih ⊢
      rw [List.map_cons]
      by_cases hx : x.serial = m.serial
      · rw [List.filter_cons_of_neg (by simp [Marker.without_same hx]), ih]
        by_cases hc : c ∈ x.pending <;> simp [hx, hc]
      · rw [Marker.without_other hx]
        by_cases hc : c ∈ x.pending
        · have hne : x.pending ≠ [] := List.ne_nil_of_mem hc
          simp [hx, hc, hne] at ih ⊢
          exact ih
        · simp [hc] at ih ⊢
          exact ih
  have hnodup : ((m :: rest).map (·.serial)).Nodup :=
    h ▸ hserials.sublist (List.filter_sublist.map _)
  obtain ⟨hm, -⟩ := List.nodup_cons.1 hnodup
  rw [applyEntry_marker]
  dsimp only
  rw [hfilter, h, List.filter_cons_of_neg (by simp), List.filter_eq_self]
  intro x hx
  have hne : x.serial ≠ m.serial := fun e => hm (List.mem_map.2 ⟨x, hx, e⟩)
  simpa using hne

/-- R81: a car that is disabled or waits takes no part in a pass. -/
theorem passCar_idle {w : Bool} {c : Car} {s : State}
    (h : s.enabled c = false ∨ (s.regime c).waiting.isSome = true) : passCar w c s = s := by
  refine if_neg fun hpart => ?_
  simp only [Bool.and_eq_true, Option.isNone_iff_eq_none] at hpart
  obtain ⟨henabled, hwaiting⟩ := hpart
  simp [henabled, hwaiting] at h

/-- A car that takes part goes through the markers that hold it. -/
theorem passCar_part {w : Bool} {c : Car} {s : State} (henabled : s.enabled c = true)
    (hwaiting : (s.regime c).waiting = none) : passCar w c s =
      carPass w c (s.marker.queue.filter (fun m => m.pending.contains c)) s := by
  rw [passCar, if_pos (by simp [henabled, hwaiting]), carPass_filter]

theorem oldest_eq_head (s : State) (c : Car) :
    s.oldest c = (s.marker.queue.filter (fun m => m.pending.contains c)).head? :=
  List.head?_filter.symm

/-- A car that no marker holds has nothing to do in a pass. -/
theorem passCar_none {w : Bool} {c : Car} {s : State} (h : s.oldest c = none) :
    passCar w c s = s := by
  have hnil : s.marker.queue.filter (fun m => m.pending.contains c) = [] := by
    rwa [oldest_eq_head, List.head?_eq_none_iff] at h
  rw [passCar, carPass_filter, hnil]
  exact ite_self _

section Turn

variable {w : Bool} {c : Car} {m : Marker} {s : State} (hm : s.oldest c = some m)
  (henabled : s.enabled c = true) (hwaiting : (s.regime c).waiting = none)

include hm

theorem oldest_holds : c ∈ m.pending := by simpa using List.find?_some hm

theorem holding_eq : ∃ rest, s.marker.queue.filter (fun m => m.pending.contains c) = m :: rest := by
  rw [oldest_eq_head, List.head?_eq_some_iff] at hm
  exact hm

include henabled hwaiting

/-- R81: the car stops at a marker above its tap cell. -/
theorem passCar_above (h : s.tapCell c < m.cell) : passCar w c s = s := by
  obtain ⟨rest, hrest⟩ := holding_eq hm
  rw [passCar_part henabled hwaiting, hrest, carPass, if_pos (oldest_holds hm),
    if_neg (Int.not_le.mpr h)]

/-- R83: the car waits on a due marker whose entry has attention. -/
theorem passCar_waits (h : m.cell ≤ s.tapCell c)
    (hattention : (s.entry (s.regime c).regime m.cls).attention = true) :
    passCar w c s = setRegime c { s.regime c with waiting := some m.serial } s := by
  obtain ⟨rest, hrest⟩ := holding_eq hm
  rw [passCar_part henabled hwaiting, hrest, carPass, if_pos (oldest_holds hm), if_pos h]
  exact if_pos hattention

/-- R82: the car applies a due marker's entry, and goes on. -/
theorem passCar_applies (hserials : s.serials.Nodup) (h : m.cell ≤ s.tapCell c)
    (hattention : (s.entry (s.regime c).regime m.cls).attention = false) :
    passCar w c s =
      passCar w c (applyEntry w c m.serial (s.entry (s.regime c).regime m.cls) s) := by
  obtain ⟨rest, hrest⟩ := holding_eq hm
  rw [passCar_part henabled hwaiting, hrest, carPass, if_pos (oldest_holds hm), if_pos h]
  refine (if_neg (by simp [hattention])).trans ?_
  rw [passCar_part ((applyEntry_enabled _ _ _ _ _ _).trans henabled)
    (by rw [applyEntry_regime_same]; exact hwaiting), applyEntry_holding w _ hserials hrest]

end Turn

/-! ## What a pass may change -/

/-- What a pass may change besides what the markers that leave the queue bring about. -/
abbrev turnFields : List Field := [.ports, .counters, .capture, .marker]

theorem arbiter_turn (s : State) : SameBut turnFields s (arbiter s) := by
  unfold arbiter
  split
  · exact ((setMarker_frame _ _).mono (by decide)).trans ((offerReport_frame _ _).mono (by decide))
  · exact .refl _ _

section Frames

variable {w : Bool} {fs : List Field} (hdrop : ∀ s, SameBut fs s (dropEmptied w s))
  (hturn : turnFields ⊆ fs)

include hdrop hturn

theorem applyEntry_frame_of (c : Car) (n : Nat) (e : RegimeEntry) (s : State) :
    SameBut fs s (applyEntry w c n e s) := by
  have happlied : SameBut fs s (s.applied w c n e) :=
    (((setMarker_frame _ _).mono (by decide)).mono hturn).trans (hdrop _)
  rw [applyEntry_eq]
  exact .ite (happlied.trans (((regimeTrigger_frame _ _ _).mono (by decide)).mono hturn)) happlied

theorem carPass_frame_of (c : Car) (q : List Marker) (s : State) :
    SameBut fs s (carPass w c q s) := by
  induction q generalizing s with
  | nil => exact .refl _ _
  | cons m q ih =>
    unfold carPass
    split
    · split
      · dsimp only
        split
        · exact ((setRegime_frame _ _ _).mono (by decide)).mono hturn
        · exact (applyEntry_frame_of hdrop hturn _ _ _ _).trans (ih _)
      · exact .refl _ _
    · exact ih s

theorem pass_frame_of (s : State) : SameBut fs s (pass w s) := by
  have hturns : SameBut fs s (forCars (passCar w) s) :=
    forCars_frame (fun c t => .ite (carPass_frame_of hdrop hturn _ _ _) (.refl _ _)) s
  exact hturns.trans ((arbiter_turn _).mono hturn)

end Frames

theorem pass_true_frame (s : State) :
    SameBut [.ports, .counters, .capture, .marker, .book] s (pass true s) :=
  pass_frame_of (fun t => (dropEmptied_true_frame t).mono (by decide)) (by decide) s

theorem pass_false_frame (s : State) :
    SameBut [.ports, .counters, .capture, .marker, .route] s (pass false s) :=
  pass_frame_of (fun t => (dropEmptied_false_frame t).mono (by decide)) (by decide) s

/-! ## The arbiter -/

/-- R84: no queued marker with a waiting car, nothing to serve. -/
theorem toServe_none {s : State} {q : List Marker}
    (h : ∀ m ∈ q, ∀ d, (s.regime d).waiting ≠ some m.serial) : toServe s q = none := by
  induction q with
  | nil => rfl
  | cons m q ih =>
    have hfind : allCars.find? (fun c => (s.regime c).waiting = some m.serial) = none := by
      simpa using fun d _ => h m (by simp) d
    rw [toServe, hfind]
    exact ih fun x hx => h x (by simp [hx])

/-- The lowest position that meets a condition is the first found in rising order. -/
theorem find_lowest {p : Car → Bool} {c : Car} (hc : p c = true) (hlow : ∀ d < c, p d = false) :
    allCars.find? p = some c := by
  have hsorted : allCars.Pairwise (· < ·) := by decide
  obtain ⟨before, after, hsplit⟩ := List.append_of_mem (mem_allCars c)
  rw [List.find?_eq_some_iff_append]
  refine ⟨hc, before, after, hsplit, fun d hd => ?_⟩
  rw [hsplit, List.pairwise_append] at hsorted
  simpa using hlow d (hsorted.2.2 d hd c (by simp))

/-- R84: the earliest marker with a waiting car, and its lowest waiting car, are served. -/
theorem toServe_earliest {s : State} {before after : List Marker} {m : Marker} {c : Car}
    (hbefore : ∀ x ∈ before, ∀ d, (s.regime d).waiting ≠ some x.serial)
    (hc : (s.regime c).waiting = some m.serial)
    (hlow : ∀ d < c, (s.regime d).waiting ≠ some m.serial) :
    toServe s (before ++ m :: after) = some (m, c) := by
  induction before with
  | nil =>
    rw [List.nil_append, toServe, find_lowest (c := c) (by simpa using hc) (by simpa using hlow)]
  | cons x before ih =>
    have hfind : allCars.find? (fun c => (s.regime c).waiting = some x.serial) = none := by
      simpa using fun d _ => hbefore x (by simp) d
    rw [List.cons_append, toServe, hfind]
    exact ih fun y hy => hbefore y (by simp [hy])

theorem arbiter_idle {s : State}
    (h : s.marker.attention.isSome = true ∨ toServe s s.marker.queue = none) : arbiter s = s := by
  unfold arbiter
  split
  · rename_i h1 h2
    simp [h1, h2] at h
  · rfl

/-- R84, R85: the record filled for the marker and the car served. -/
theorem arbiter_fills {s : State} {m : Marker} {c : Car} (hempty : s.marker.attention = none)
    (h : toServe s s.marker.queue = some (m, c)) :
    arbiter s =
      let hold : Attention :=
        { serial := m.serial, car := c, cls := m.cls, param := m.param,
          regimeBefore := (s.regime c).regime, copy := s.entry (s.regime c).regime m.cls,
          timer := s.profile.attentionTimeout }
      offerReport (.attention hold) (s.setMarker { s.marker with attention := some hold }) := by
  unfold arbiter
  rw [hempty, h]

/-! ## What a pass leaves of the queue -/

/-- `q` is what is left of the queue `p` where cars have left pending sets and markers have left the
queue. -/
def Thinned (p q : List Marker) : Prop :=
  ∃ f : Marker → Marker,
    (∀ m, (f m).cell = m.cell ∧ (f m).kind = m.kind ∧ (f m).pending ⊆ m.pending) ∧
      q.Sublist (p.map f)

theorem Thinned.refl (q : List Marker) : Thinned q q :=
  ⟨id, fun _ => ⟨rfl, rfl, fun _ => id⟩, by simp⟩

theorem Thinned.trans {p q r : List Marker} (h : Thinned p q) (k : Thinned q r) : Thinned p r := by
  obtain ⟨f, hf, hq⟩ := h
  obtain ⟨g, hg, hr⟩ := k
  refine ⟨g ∘ f, fun m => ?_, ?_⟩
  · obtain ⟨hcell, hkind, hpending⟩ := hf m
    obtain ⟨gcell, gkind, gpending⟩ := hg (f m)
    exact ⟨gcell.trans hcell, gkind.trans hkind, List.Subset.trans gpending hpending⟩
  · rw [← List.map_map]
    exact hr.trans (hq.map g)

theorem Thinned.of_sublist {p q : List Marker} (h : q.Sublist p) : Thinned p q :=
  ⟨id, fun _ => ⟨rfl, rfl, fun _ => id⟩, by simpa⟩

/-- Each marker left stood in the queue, at its cell and holding its cars. -/
theorem Thinned.origin {p q : List Marker} (h : Thinned p q) {m : Marker} (hm : m ∈ q) :
    ∃ x ∈ p, m.cell = x.cell ∧ m.pending ⊆ x.pending := by
  obtain ⟨f, hf, hq⟩ := h
  obtain ⟨x, hx, rfl⟩ := List.mem_map.1 (hq.subset hm)
  obtain ⟨hcell, -, hpending⟩ := hf x
  exact ⟨x, hx, hcell, hpending⟩

/-- The cells of a queue never decrease from head to tail (R74). -/
def CellsRise (q : List Marker) : Prop := q.Pairwise (fun x y => x.cell ≤ y.cell)

theorem Thinned.rise {p q : List Marker} (h : Thinned p q) (hp : CellsRise p) : CellsRise q := by
  obtain ⟨f, hf, hq⟩ := h
  have hcell : ∀ m, (f m).cell = m.cell := fun m => (hf m).1
  refine List.Pairwise.sublist hq (List.pairwise_map.2 ?_)
  simpa only [hcell, CellsRise] using hp

theorem Marker.without_keeps (c : Car) (n : Nat) (m : Marker) :
    (m.without c n).cell = m.cell ∧ (m.without c n).kind = m.kind ∧
      (m.without c n).pending ⊆ m.pending := by
  unfold Marker.without
  split
  · exact ⟨rfl, rfl, List.filter_subset_self _⟩
  · exact ⟨rfl, rfl, fun _ => id⟩

theorem applyEntry_thinned (w : Bool) (c : Car) (n : Nat) (e : RegimeEntry) (s : State) :
    Thinned s.marker.queue (applyEntry w c n e s).marker.queue := by
  rw [applyEntry_marker]
  exact ⟨Marker.without c n, Marker.without_keeps c n, List.filter_sublist⟩

theorem carPass_thinned (w : Bool) (c : Car) (q : List Marker) (s : State) :
    Thinned s.marker.queue (carPass w c q s).marker.queue := by
  induction q generalizing s with
  | nil => exact .refl _
  | cons m q ih =>
    unfold carPass
    split
    · split
      · dsimp only
        split
        · exact .refl _
        · exact (applyEntry_thinned _ _ _ _ _).trans (ih _)
      · exact .refl _
    · exact ih s

theorem passCar_thinned (w : Bool) (c : Car) (s : State) :
    Thinned s.marker.queue (passCar w c s).marker.queue := by
  unfold passCar
  split
  · exact carPass_thinned _ _ _ _
  · exact .refl _

theorem arbiter_keeps (s : State) :
    (arbiter s).marker.queue = s.marker.queue ∧ (arbiter s).marker.cars = s.marker.cars := by
  rcases arbiter_cases s with e | ⟨m, c, -, -, e⟩ <;> rw [e]
  · exact ⟨rfl, rfl⟩
  · exact ⟨rfl, rfl⟩

theorem forCars_passCar_thinned (w : Bool) (s : State) :
    Thinned s.marker.queue (forCars (passCar w) s).marker.queue :=
  forCars_keeps (p := fun t => Thinned s.marker.queue t.marker.queue)
    (fun c t h => h.trans (passCar_thinned w c t)) s (.refl _)

theorem pass_thinned (w : Bool) (s : State) : Thinned s.marker.queue (pass w s).marker.queue := by
  rw [pass, (arbiter_keeps _).1]
  exact forCars_passCar_thinned w s

/-! ## What a pass leaves due -/

theorem carPass_regime_other (w : Bool) {c d : Car} (q : List Marker) (s : State) (h : d ≠ c) :
    (carPass w c q s).regime d = s.regime d := by
  induction q generalizing s with
  | nil => rfl
  | cons m q ih =>
    unfold carPass
    split
    · split
      · dsimp only
        split
        · exact setRegime_other _ _ h
        · rw [ih, applyEntry_regime_other _ _ _ _ h]
      · rfl
    · exact ih s

theorem passCar_regime_other (w : Bool) {c d : Car} (s : State) (h : d ≠ c) :
    (passCar w c s).regime d = s.regime d := by
  unfold passCar
  split
  · exact carPass_regime_other _ _ _ h
  · rfl

/-- What no operation of a pass reads otherwise afterwards: where the taps stand and who is enabled. -/
theorem tapCell_of_frame {s t : State} (h : SameBut answerFields s t) (c : Car) :
    t.tapCell c = s.tapCell c ∧ t.enabled c = s.enabled c := by
  have hline : t.line = s.line := h .line (by decide)
  have hdemand : t.demand = s.demand := h .demand (by decide)
  simp only [State.tapCell, State.enabled, State.carProfile, hline, hdemand, and_self]

/-- R81: an enabled car that does not wait has no marker at or below its tap cell. -/
def NothingDue (c : Car) (s : State) : Prop :=
  s.enabled c = true → (s.regime c).waiting = none →
    ∀ m ∈ s.marker.queue, c ∈ m.pending → s.tapCell c < m.cell

/-- R81: a car that has gone through the queue and does not wait has nothing due, where the markers it
went through cover those that hold it. -/
theorem carPass_nothingDue {w : Bool} {c : Car} {q : List Marker} {s : State} (hrise : CellsRise q)
    (hcover : ∀ m ∈ s.marker.queue, c ∈ m.pending →
      ∃ x ∈ q, c ∈ x.pending ∧ x.cell = m.cell ∧ x.serial = m.serial)
    (hwaiting : ((carPass w c q s).regime c).waiting = none) :
    ∀ m ∈ (carPass w c q s).marker.queue, c ∈ m.pending →
      (carPass w c q s).tapCell c < m.cell := by
  induction q generalizing s with
  | nil =>
    intro m hm hc
    obtain ⟨x, hx, -⟩ := hcover m hm hc
    cases hx
  | cons y q ih =>
    obtain ⟨hhead, htail⟩ := List.pairwise_cons.1 hrise
    unfold carPass at hwaiting ⊢
    split at hwaiting
    · rename_i hy
      rw [if_pos hy]
      split at hwaiting
      · rename_i hdue
        rw [if_pos hdue]
        dsimp only at hwaiting ⊢
        split at hwaiting
        · simp at hwaiting
        · rename_i hattention
          rw [if_neg hattention]
          refine ih htail (fun m hm hc => ?_) hwaiting
          rw [applyEntry_marker] at hm
          obtain ⟨x, hx, rfl⟩ := List.mem_map.1 (List.mem_of_mem_filter hm)
          have hserial : x.serial ≠ y.serial := fun e => Marker.without_same e hc
          rw [Marker.without_other hserial] at hc ⊢
          obtain ⟨z, hz, hzc, hcell, hzs⟩ := hcover x hx hc
          rcases List.mem_cons.1 hz with rfl | hz
          · exact absurd hzs.symm hserial
          · exact ⟨z, hz, hzc, hcell, hzs⟩
      · rename_i habove
        rw [if_neg habove]
        intro m hm hc
        obtain ⟨x, hx, -, hcell, -⟩ := hcover m hm hc
        have hle : y.cell ≤ x.cell := by
          rcases List.mem_cons.1 hx with rfl | hx
          · exact Nat.le_refl _
          · exact hhead x hx
        omega
    · rename_i hy
      rw [if_neg hy]
      refine ih htail (fun m hm hc => ?_) hwaiting
      obtain ⟨x, hx, hxc, hcell, hserial⟩ := hcover m hm hc
      rcases List.mem_cons.1 hx with rfl | hx
      · exact absurd hxc hy
      · exact ⟨x, hx, hxc, hcell, hserial⟩

theorem passCar_nothingDue {w : Bool} {c : Car} {s : State} (hrise : CellsRise s.marker.queue) :
    NothingDue c (passCar w c s) := by
  intro henabled hwaiting
  unfold passCar at henabled hwaiting ⊢
  split at hwaiting
  · rename_i hpart
    rw [if_pos hpart]
    exact carPass_nothingDue hrise (fun m hm hc => ⟨m, hm, hc, rfl, rfl⟩) hwaiting
  · rename_i hpart
    rw [if_neg hpart] at henabled
    simp [henabled, hwaiting] at hpart

/-- Nothing becomes due for a car by the turn of any. -/
theorem passCar_keeps_nothingDue {w : Bool} {c d : Car} {s : State}
    (hrise : CellsRise s.marker.queue) (h : NothingDue c s) : NothingDue c (passCar w d s) := by
  by_cases hd : c = d
  · subst hd
    exact passCar_nothingDue hrise
  · obtain ⟨htap, henabled⟩ := tapCell_of_frame (passCar_frame w d s) c
    intro hon hwaiting m hm hc
    rw [passCar_regime_other w s hd] at hwaiting
    obtain ⟨x, hx, hcell, hsub⟩ := (passCar_thinned w d s).origin hm
    rw [htap, hcell]
    exact h (henabled ▸ hon) hwaiting x hx (hsub hc)

theorem forCars_nothingDue {w : Bool} {s : State} (hrise : CellsRise s.marker.queue) (c : Car) :
    NothingDue c (forCars (passCar w) s) := by
  have hkept : ∀ (l : List Car) (t : State), CellsRise t.marker.queue → NothingDue c t →
      NothingDue c (l.foldl (fun t d => passCar w d t) t) := by
    intro l
    induction l with
    | nil => exact fun t _ h => h
    | cons d l ih =>
      exact fun t ht h => ih _ ((passCar_thinned w d t).rise ht) (passCar_keeps_nothingDue ht h)
  have hrises : ∀ (l : List Car) (t : State), CellsRise t.marker.queue →
      CellsRise (l.foldl (fun t d => passCar w d t) t).marker.queue := by
    intro l
    induction l with
    | nil => exact fun t h => h
    | cons d l ih => exact fun t ht => ih _ ((passCar_thinned w d t).rise ht)
  obtain ⟨before, after, hsplit⟩ := List.append_of_mem (mem_allCars c)
  rw [forCars, hsplit, List.foldl_append, List.foldl_cons]
  have hb := hrises before s hrise
  exact hkept after _ ((passCar_thinned w c _).rise hb) (passCar_nothingDue hb)

/-! ## The settled obligations -/

/-- Settles O20: the turn of the car itself leaves nothing due for it, and no other turn makes anything
due. -/
theorem passLeavesNothingDue : Obligations.PassLeavesNothingDue := by
  intro w s hrise c m henabled hwaiting hm hc
  obtain ⟨hqueue, hcars⟩ := arbiter_keeps (forCars (passCar w) s)
  obtain ⟨htap, hsame⟩ := tapCell_of_frame (arbiter_frame (forCars (passCar w) s)) c
  rw [pass] at henabled hwaiting hm ⊢
  rw [htap]
  rw [hsame] at henabled
  rw [State.regime, hcars] at hwaiting
  rw [hqueue] at hm
  exact forCars_nothingDue hrise c henabled hwaiting m hm hc

/-- Settles O21: the turn of a car by its oldest marker, the application by its capture flag and the state
of the capture unit, the arbiter by the first marker with a waiting car. -/
theorem passAppliesMarkers : Obligations.PassAppliesMarkers := by
  refine ⟨fun s c => rfl, fun w c s => ?_, fun w c n e s => ?_, fun w s => ?_⟩
  · intro oldest
    refine ⟨passCar_idle, fun henabled hwaiting hserials => ⟨passCar_none, fun m hm => ?_⟩⟩
    exact ⟨passCar_above hm henabled hwaiting, passCar_waits hm henabled hwaiting,
      passCar_applies hm henabled hwaiting hserials⟩
  · intro taken begun missed newest
    refine ⟨fun he => ?_, fun he h => ?_, fun he h => ?_⟩
    · rw [applyEntry_eq, if_neg (by simp [he])]
      rfl
    · exact applyEntry_triggers w he ((CapState.accepts_iff _).2 h)
    · exact applyEntry_misses w he (by rcases h with h | h <;> rw [h] <;> rfl)
  · intro u idle
    have hpass : pass w s = arbiter u := rfl
    rw [hpass]
    clear_value u
    refine ⟨fun h => arbiter_idle (h.imp_right toServe_none), ?_⟩
    intro before after m c hempty hqueue hbefore hc hlow
    exact arbiter_fills hempty (hqueue ▸ toServe_earliest hbefore hc hlow)

end Sys2Proof.Machine
end

section
/-! The attention record and the marker unit's tables: the end of a hold by the attention timer or by
Attention Release (R86, R87), Set Regime Entry and Clear Marker Loss (R76, R79). -/

set_option Elab.async false

namespace Sys2Proof.Machine

/-! ## The end of a hold -/

/-- What the end of a hold may change: with no section end under way, no notice is kept. -/
abbrev holdFields : List Field := [.ports, .counters, .route, .capture, .marker]

theorem endHold_hold (hold : Attention) (e : RegimeEntry) (s : State) :
    SameBut holdFields s (endHold hold e s) :=
  ((applyEntry_frame_of (fun t => (dropEmptied_false_frame t).mono (by decide)) (by decide) hold.car
    hold.serial e s).trans ((setMarker_frame _ _).mono (by decide))).trans
    ((stopWaiting_frame _ _).mono (by decide))

/-- A state that differs in these fields alone is the state with these fields replaced. -/
theorem eq_of_hold {s u : State} (h : SameBut holdFields s u) :
    u = (((((s.setPorts u.ports).setCounters u.counters).setRoute u.route).setCapture
      u.capture).setMarker u.marker) := by
  refine SameBut.eq_of_nil fun f _ => ?_
  have hsame := h f
  cases f
  case ports | counters | route | capture | marker => rfl
  all_goals exact hsame (by decide)

/-- The regime record of a car that a hold has released with an entry (R86, R87). -/
def RegimeEntry.released (e : RegimeEntry) : CarRegime :=
  { regime := e.next, authority := e.authority, waiting := none }

/-- R86, R87: the held car applies the entry and stops waiting, and the record empties. -/
theorem endHold_eq (hold : Attention) (e : RegimeEntry) (s : State) :
    endHold hold e s =
      let applied := applyEntry false hold.car hold.serial e s
      applied.setMarker
        { applied.marker with
          attention := none, cars := applied.marker.cars.set hold.car e.released } := by
  have hregime : (emptyRecord (applyEntry false hold.car hold.serial e s)).regime hold.car =
      { s.regime hold.car with regime := e.next, authority := e.authority } :=
    applyEntry_regime_same _ _ _ _ _
  rw [endHold, stopWaiting, hregime]
  rfl

theorem endHold_marker (hold : Attention) (e : RegimeEntry) (s : State) :
    (endHold hold e s).marker =
      { s.marker with
        queue := (s.marker.queue.map (Marker.without hold.car hold.serial)).filter
          (fun m => !m.pending.isEmpty),
        attention := none,
        cars := s.marker.cars.set hold.car e.released } := by
  rw [endHold_eq]
  simp [applyEntry_marker]

theorem endHold_regime_same (hold : Attention) (e : RegimeEntry) (s : State) :
    (endHold hold e s).regime hold.car = e.released := by
  rw [State.regime, endHold_marker]
  exact vector_set_same _ _ _

theorem endHold_regime_other {hold : Attention} {d : Car} (e : RegimeEntry) (s : State)
    (h : d ≠ hold.car) : (endHold hold e s).regime d = s.regime d := by
  rw [State.regime, endHold_marker]
  exact vector_set_other _ _ h

/-- R82: the held car has left the marker of its hold. -/
theorem endHold_left {hold : Attention} {e : RegimeEntry} {s : State} {m : Marker}
    (hm : m ∈ (endHold hold e s).marker.queue) (hserial : m.serial = hold.serial) :
    hold.car ∉ m.pending := by
  rw [endHold_marker] at hm
  obtain ⟨x, -, rfl⟩ := List.mem_map.1 (List.mem_of_mem_filter hm)
  refine Marker.without_same ?_
  by_contra hx
  rw [Marker.without_other hx] at hserial
  exact hx hserial

theorem setMarker_regime {c : Car} {s : State} {m : MarkerUnit} (h : m.cars = s.marker.cars) :
    (s.setMarker m).regime c = s.regime c := by
  rw [State.regime, State.setMarker_marker, h, State.regime]

theorem attentionExpiry_held {hold : Attention} {s : State} (h : s.marker.attention = some hold) :
    attentionExpiry s =
      let t := endHold hold hold.copy.capped s
      pass false (offerReport
        (.attentionEnd .timeout hold.serial hold.car hold.copy.next hold.copy.capped.authority)
        (t.setMarker { t.marker with lastTimedOut := some hold.serial })) := by
  rw [attentionExpiry, h]
  dsimp only
  rw [offerAttentionEnd, setMarker_regime, endHold_regime_same]
  · rfl
  · rfl

/-- R87: the lesser of an authority and LIMITED. -/
theorem Authority.cap_limited (x : Authority) :
    x.cap .limited = if x = .full then .limited else x := by
  cases x <;> rfl

/-- Settles O22: the end of the hold in closed form, then the last timed out, the report and the pass. -/
theorem attentionTimerExpires : Obligations.AttentionTimerExpires := by
  intro s hrunning
  have hexec : exec .attentionTimerExpiry s = .next (attentionExpiry s) :=
    congrArg Host.Outcome.next (unlessReset_running hrunning)
  rw [hexec]
  refine ⟨fun h => by rw [attentionExpiry, h], fun hold h => ?_⟩
  intro authority applied u
  have hentry : hold.copy.capped = { hold.copy with authority := authority } := by
    rw [RegimeEntry.capped, Authority.cap_limited]
  have hu : u = endHold hold hold.copy.capped s := by
    rw [endHold_eq, hentry]
    rfl
  have hregime : (endHold hold hold.copy.capped s).regime hold.car =
      { regime := hold.copy.next, authority := authority, waiting := none } := by
    rw [endHold_regime_same, hentry]
    rfl
  rw [hu]
  refine ⟨?_, hregime, fun d hd => endHold_regime_other _ _ hd, ?_, fun m hm => endHold_left hm,
    ?_, ?_, ?_, eq_of_hold (endHold_hold _ _ _)⟩
  · rw [attentionExpiry_held h, hentry]
  all_goals rw [endHold_marker]

/-! ## Regime table entries as sent -/

section Entry

variable {p : List Byte} {off : Nat}

/-- R178: the attention, capture and authority fields have defined values. -/
def EntryDefined (p : List Byte) (off : Nat) : Prop :=
  field p (off + 1) 1 ≤ 2 ∧ field p (off + 2) 1 ≤ 1 ∧ field p (off + 3) 1 ≤ 1

theorem readEntry_undefined (h : ¬EntryDefined p off) : readEntry p off = .error .format := by
  unfold readEntry
  split
  · rename_i attention capture authority hattention hcapture hauthority
    refine absurd ⟨?_, ?_, ?_⟩ h <;> by_contra hlarge
    · rw [readAuthority_none (by omega)] at hauthority
      cases hauthority
    · rw [readBool_none (by omega)] at hattention
      cases hattention
    · rw [readBool_none (by omega)] at hcapture
      cases hcapture
  · rfl

theorem readEntry_range (h : EntryDefined p off) (hnext : 7 < field p off 1) :
    readEntry p off = .error .range := by
  obtain ⟨hauthority, hattention, hcapture⟩ := h
  obtain ⟨authority, ha, -⟩ := readAuthority_some hauthority
  obtain ⟨attention, ht, -⟩ := readBool_some hattention
  obtain ⟨capture, hc, -⟩ := readBool_some hcapture
  rw [readEntry, ha, ht, hc]
  dsimp only
  rw [readFin_none hnext]

theorem readEntry_ok {e : RegimeEntry} (hnext : field p off 1 = e.next.val)
    (hauthority : field p (off + 1) 1 = e.authority.code)
    (hattention : field p (off + 2) 1 = boolCode e.attention)
    (hcapture : field p (off + 3) 1 = boolCode e.capture) : readEntry p off = .ok e := by
  rw [readEntry, hattention, hcapture, hauthority, readBool_code, readBool_code,
    readAuthority_code]
  dsimp only
  rw [hnext, readFin_val]

/-- Where the fields are defined and the next regime is at most 7, they are those of an entry. -/
theorem readEntry_exists (h : EntryDefined p off) (hnext : field p off 1 ≤ 7) :
    ∃ e, readEntry p off = .ok e := by
  obtain ⟨hauthority, hattention, hcapture⟩ := h
  obtain ⟨authority, -, ha⟩ := readAuthority_some hauthority
  obtain ⟨attention, -, ht⟩ := readBool_some hattention
  obtain ⟨capture, -, hc⟩ := readBool_some hcapture
  exact ⟨⟨⟨field p off 1, by omega⟩, authority, attention, capture⟩, readEntry_ok rfl ha ht hc⟩

end Entry

/-! ## Set Regime Entry and Clear Marker Loss -/

theorem writeEntry_entry (r : Regime) (cls : MarkerClass) (e : RegimeEntry) (s : State) :
    (writeEntry r cls e s).entry r cls = e ∧
      ∀ x y, (x, y) ≠ (r, cls) → (writeEntry r cls e s).entry x y = s.entry x y := by
  have hrow : (writeEntry r cls e s).marker.table[r] = s.marker.table[r].set cls e :=
    vector_set_same _ _ _
  have hplace := fun y : MarkerClass => congrArg (fun row : Vector RegimeEntry 16 => row[y]) hrow
  refine ⟨(hplace cls).trans (vector_set_same _ _ _), fun x y hne => ?_⟩
  by_cases hx : x = r
  · subst hx
    exact (hplace y).trans (vector_set_other _ _ fun hy => hne (hy ▸ rfl))
  · exact congrArg (fun row : Vector RegimeEntry 16 => row[y]) (vector_set_other _ _ hx)

theorem actSetRegimeEntry_range {p : List Byte} (s : State) (hdefined : EntryDefined p 2)
    (h : 7 < field p 0 1 ∨ 15 < field p 1 1 ∨ 7 < field p 2 1) :
    actSetRegimeEntry p s = refuse .range s := by
  unfold actSetRegimeEntry
  by_cases hnext : 7 < field p 2 1
  · rw [readEntry_range hdefined hnext]
  · obtain ⟨e, he⟩ := readEntry_exists hdefined (Nat.not_lt.mp hnext)
    rw [he]
    dsimp only
    split
    · rename_i r cls hr hcls
      rcases h with h | h | h
      · rw [readFin_none h] at hr
        cases hr
      · rw [readFin_none h] at hcls
        cases hcls
      · exact absurd h hnext
    · rfl

/-- Settles O40: the condition cleared; the fields of an entry judged, and its place in the table
written. -/
theorem markerTableRequests : Obligations.MarkerTableRequests := by
  intro s r rest
  refine ⟨fun h => ?_, fun h => ?_⟩
  · have hact : actClearMarkerLoss r.payload (s.taken rest) =
        (.bare .ok, setLoss false (s.taken rest)) := rfl
    exact congrArg Host.Outcome.next (serve_changes h hact rfl rfl)
  · intro p defined
    refine ⟨fun hd => ?_, fun hd hrange => ?_, ?_⟩
    · refine congrArg Host.Outcome.next (serve_answers h ?_)
      rw [actSetRegimeEntry, readEntry_undefined hd]
      rfl
    · exact congrArg Host.Outcome.next (serve_answers h (actSetRegimeEntry_range _ hd hrange))
    · intro regime next cls authority attention capture hregime hcls hnext ha ht hc
      have hread : readEntry r.payload 2 = .ok ⟨next, authority, attention, capture⟩ :=
        readEntry_ok hnext ha ht hc
      have hact : actSetRegimeEntry r.payload (s.taken rest) =
          (.bare .ok, writeEntry regime cls ⟨next, authority, attention, capture⟩
            (s.taken rest)) := by
        rw [actSetRegimeEntry, hread]
        dsimp only
        rw [hregime, hcls, readFin_val, readFin_val]
        rfl
      have hexec : exec .setRegimeEntry s = .next _ :=
        congrArg Host.Outcome.next (serve_changes h hact rfl rfl)
      obtain ⟨hsame, hother⟩ :=
        writeEntry_entry regime cls ⟨next, authority, attention, capture⟩ (s.taken rest)
      exact ⟨_, hexec, hsame, hother, rfl⟩

/-! ## Attention Release -/

theorem release_refused {serial : Nat} {s : State} (replacement : Option RegimeEntry)
    (h : ∀ hold ∈ s.marker.attention, hold.serial ≠ serial) :
    release serial replacement s =
      refuse (if s.marker.lastTimedOut = some serial then .tooLate else .nothingPending) s := by
  rw [apply_ite (refuse · s)]
  unfold release
  split
  · rename_i hold hhold
    rw [if_neg (h hold hhold)]
  · rfl

theorem release_held {hold : Attention} {s : State} (replacement : Option RegimeEntry)
    (h : s.marker.attention = some hold) : release hold.serial replacement s =
      done (releaseHold hold (replacement.getD hold.copy) s) := by
  rw [release, h]
  exact if_pos rfl

/-- What the replacement fields of Attention Release ask for (R86). -/
theorem actAttentionRelease_eq {p : List Byte} (s : State) :
    (field p 2 1 = 0 → actAttentionRelease p s = release (field p 0 2) none s) ∧
    (1 < field p 2 1 → actAttentionRelease p s = refuse .format s) ∧
    ∀ x, field p 2 1 = 1 → readEntry p 3 = x →
      actAttentionRelease p s = match x with
        | .error code => refuse code s
        | .ok e => release (field p 0 2) (some e) s := by
  unfold actAttentionRelease
  refine ⟨fun h => by rw [h]; rfl, fun h => by rw [readBool_none h], fun x h hx => ?_⟩
  rw [h, ← hx]
  rfl

/-- The entry that a release applies: the copy, or the replacement that the request carries (R86). -/
def Releases (p : List Byte) (hold : Attention) (e : RegimeEntry) : Prop :=
  field p 2 1 = 0 ∧ e = hold.copy ∨ field p 2 1 = 1 ∧ readEntry p 3 = .ok e

theorem actAttentionRelease_releases {p : List Byte} {hold : Attention} {e : RegimeEntry} {s : State}
    (h : s.marker.attention = some hold) (hserial : hold.serial = field p 0 2)
    (he : Releases p hold e) : actAttentionRelease p s = done (releaseHold hold e s) := by
  obtain ⟨hcopy, -, hreplaced⟩ := actAttentionRelease_eq (p := p) s
  rcases he with ⟨hp, rfl⟩ | ⟨hp, he⟩
  · rw [hcopy hp, ← hserial]
    exact release_held none h
  · rw [hreplaced _ hp he, ← hserial]
    exact release_held (some e) h

/-- The replacement fields of Attention Release have defined values where they are read (R178). -/
def ReleaseDefined (p : List Byte) : Prop :=
  field p 2 1 = 0 ∨ field p 2 1 = 1 ∧ EntryDefined p 3

theorem actAttentionRelease_undefined {p : List Byte} (s : State) (h : ¬ReleaseDefined p) :
    actAttentionRelease p s = refuse .format s := by
  obtain ⟨-, hformat, hreplaced⟩ := actAttentionRelease_eq (p := p) s
  by_cases hlarge : 1 < field p 2 1
  · exact hformat hlarge
  · have hone : field p 2 1 = 1 := by
      have hzero : field p 2 1 ≠ 0 := fun e => h (.inl e)
      omega
    exact hreplaced _ hone (readEntry_undefined fun hd => h (.inr ⟨hone, hd⟩))

theorem actAttentionRelease_range {p : List Byte} (s : State) (h : ReleaseDefined p)
    (hrange : ¬(field p 2 1 = 0 ∨ field p 3 1 ≤ 7)) :
    actAttentionRelease p s = refuse .range s := by
  obtain ⟨-, -, hreplaced⟩ := actAttentionRelease_eq (p := p) s
  rcases h with h | ⟨h, hdefined⟩
  · exact absurd (.inl h) hrange
  · exact hreplaced _ h (readEntry_range hdefined (by omega))

theorem actAttentionRelease_judged {p : List Byte} (s : State) (h : ReleaseDefined p)
    (hrange : field p 2 1 = 0 ∨ field p 3 1 ≤ 7) :
    ∃ replacement, actAttentionRelease p s = release (field p 0 2) replacement s := by
  obtain ⟨hcopy, -, hreplaced⟩ := actAttentionRelease_eq (p := p) s
  by_cases hzero : field p 2 1 = 0
  · exact ⟨none, hcopy hzero⟩
  · obtain ⟨hone, hdefined⟩ := h.resolve_left hzero
    obtain ⟨e, he⟩ := readEntry_exists hdefined (hrange.resolve_left hzero)
    exact ⟨some e, hreplaced _ hone he⟩

/-- Settles O41: the fields of the request judged in order, then its serial, and a release by the end of
the hold in closed form. -/
theorem attentionReleaseOutcomes : Obligations.AttentionReleaseOutcomes := by
  intro s r rest h p serial refused defined ranged
  have hrefused : ∀ {c}, actAttentionRelease p (s.taken rest) = refuse c (s.taken rest) →
      refused c := fun e => congrArg Host.Outcome.next (serve_answers h e)
  refine ⟨fun hd => hrefused (actAttentionRelease_undefined _ hd),
    fun hd hr => hrefused (actAttentionRelease_range _ hd hr), fun hd hr hheld => ?_,
    fun hd hr hold hhold hserial e he => ?_⟩
  · obtain ⟨replacement, hact⟩ := actAttentionRelease_judged (s.taken rest) hd hr
    have hanswer := hact.trans (release_refused (s := s.taken rest) replacement hheld)
    exact ⟨fun hlast => hrefused (hanswer.trans (congrArg (refuse · _) (if_pos hlast))),
      fun hlast => hrefused (hanswer.trans (congrArg (refuse · _) (if_neg hlast)))⟩
  · intro applied u
    have hu : u = endHold hold e (s.taken rest) := by
      rw [endHold_eq, hserial]
      rfl
    have hreleases : Releases p hold e := he.imp_right fun ⟨hone, hnext, ha, ht, hc⟩ =>
      ⟨hone, readEntry_ok hnext ha ht hc⟩
    have hact := actAttentionRelease_releases (s := s.taken rest) hhold hserial hreleases
    have hserve : serve .attentionRelease actAttentionRelease s =
        placeReply r (.bare .ok) (pass false (endHold hold e (s.taken rest))) := by
      rw [serve_serves h, hact, done, releaseHold]
    rw [hu]
    refine ⟨congrArg Host.Outcome.next hserve, endHold_regime_same _ _ _,
      fun d hd => endHold_regime_other _ _ hd, ?_,
      fun m hm hs => endHold_left hm (hs.trans hserial.symm), ?_, ?_, ?_, ?_,
      eq_of_hold (endHold_hold _ _ _)⟩
    all_goals simp [endHold_marker, State.taken]

end Sys2Proof.Machine
end

section
/-! Section ends and starts (R74, R75, R102 to R106), and the judging of a track marker (R71, R72, R76, R77,
R103). -/

set_option Elab.async false

namespace Sys2Proof.Machine

/-! ## Banks reported -/

/-- R112: the report of a bank whose record has just been replaced. -/
theorem offerRoute_setBank (event : RouteEvent) (bank : Bank) (cause : Option RouteCause)
    (anchor : Option (MarkerClass × Byte)) (x : BankRecord) (s : State) :
    offerRoute event bank cause anchor (setBank bank x s) =
      let route := s.route.setBank bank x
      offerReport (.route event bank x.sectionId x.startNat x.endCell cause anchor route.a.state
        route.b.state s.line.newest) (s.setRoute route) := by
  cases bank <;> rfl

/-- R102, R103: a bank started at a cell. -/
theorem startBank_eq (bank : Bank) (start : Nat) (cause : RouteCause)
    (anchor : Option (MarkerClass × Byte)) (s : State) :
    startBank bank start cause anchor s =
      let b := s.route.bank bank
      let route := s.route.setBank bank { b with state := .inUse, startCell := some start }
      offerReport (.route .started bank b.sectionId start (start + b.length) (some cause) anchor
        route.a.state route.b.state s.line.newest) (s.setRoute route) :=
  offerRoute_setBank _ _ _ _ _ _

/-- R106: a bank freed. -/
theorem freePassed_eq (bank : Bank) (s : State) :
    freePassed bank s =
      let b := s.route.bank bank
      let route := s.route.setBank bank { b with state := .free }
      offerReport (.route .freed bank b.sectionId b.startNat b.endCell (some .passed) none
        route.a.state route.b.state s.line.newest) (s.setRoute route) :=
  offerRoute_setBank _ _ _ _ _ _

/-! ## One section end -/

/-- The SECTION_END marker of the end of a bank's section (R74, R104). -/
def endMarker (bank : Bank) (s : State) : Marker :=
  let ended := s.route.bank bank
  let stop := ended.endCell
  { serial := s.marker.serialCounter, kind := .sectionEnd,
    cls := (ended.header.map (·.endClass)).getD 0, param := BitVec.ofNat 8 ended.sectionId,
    cell := match s.marker.queue.getLast? with
      | some tail => if ∃ m ∈ s.marker.queue, stop < m.cell then tail.cell else stop
      | none => stop,
    bank := some bank, pending := s.enabledCars }

/-- The state with the ending bank DRAINING and its SECTION_END marker at the tail of the queue. -/
def State.draining (bank : Bank) (s : State) : State :=
  (s.setRoute (s.route.setBank bank { s.route.bank bank with state := .draining })).setMarker
    { s.marker with
      queue := s.marker.queue ++ [endMarker bank s],
      serialCounter := nextSerial s.marker.serialCounter }

/-- R74: the SECTION_END marker queued, its cell raised to the tail's where a marker stands above it. -/
theorem queueSectionEnd_draining (bank : Bank) (s : State) :
    queueSectionEnd (((s.route.bank bank).header.map (·.endClass)).getD 0)
      (BitVec.ofNat 8 (s.route.bank bank).sectionId) (s.route.bank bank).endCell bank
      (setBankState bank .draining s) = pass true (dropEmptied true (s.draining bank)) := by
  have hcell : (if s.marker.queue.any (fun m => decide ((s.route.bank bank).endCell < m.cell)) then
      s.tailCell.getD (s.route.bank bank).endCell else (s.route.bank bank).endCell) =
        (endMarker bank s).cell := by
    simp only [endMarker, State.tailCell, List.any_eq_true, decide_eq_true_eq]
    cases s.marker.queue.getLast? <;> simp
  have henqueue : s.draining bank = enqueue .sectionEnd
      (((s.route.bank bank).header.map (·.endClass)).getD 0)
      (BitVec.ofNat 8 (s.route.bank bank).sectionId) (endMarker bank s).cell (some bank)
      (setBankState bank .draining s) := rfl
  rw [henqueue, ← hcell]
  rfl

/-- R104 steps 1 to 3: the marker with its pass, then the ENDED report. -/
theorem drainBank_eq (bank : Bank) (s : State) :
    drainBank bank s =
      let ended := s.route.bank bank
      let drained := s.route.setBank bank { ended with state := .draining }
      offerReport (.route .ended bank ended.sectionId ended.startNat ended.endCell none none
        drained.a.state drained.b.state s.line.newest)
        (pass true (dropEmptied true (s.draining bank))) := by
  have hqueue : drainBank bank s =
      offerRoute .ended bank none none (pass true (dropEmptied true (s.draining bank))) := by
    rw [← queueSectionEnd_draining, drainBank]
    cases (s.route.bank bank).header <;> rfl
  have hframe : SameBut [.ports, .counters, .capture, .marker, .book] (s.draining bank)
      (pass true (dropEmptied true (s.draining bank))) :=
    ((dropEmptied_true_frame _).mono (by decide)).trans (pass_true_frame _)
  have hroute : (pass true (dropEmptied true (s.draining bank))).route =
      s.route.setBank bank { s.route.bank bank with state := .draining } :=
    hframe .route (by decide)
  have hline : (pass true (dropEmptied true (s.draining bank))).line = s.line :=
    hframe .line (by decide)
  rw [hqueue, offerRoute, routeReport, hroute, hline, Route.setBank_same]
  rfl

theorem drainBank_route (bank : Bank) (s : State) : (drainBank bank s).route =
    s.route.setBank bank { s.route.bank bank with state := .draining } := by
  have hframe : SameBut [.ports, .counters, .capture, .marker, .book] (s.draining bank)
      (drainBank bank s) := by
    rw [drainBank_eq]
    exact ((dropEmptied_true_frame _).mono (by decide)).trans
      ((pass_true_frame _).trans ((offerReport_frame _ _).mono (by decide)))
  exact hframe .route (by decide)

/-- R104: a whole section end. -/
def State.endSection (bank : Bank) (s : State) : State := chainOrUnknown bank (drainBank bank s)

/-- The route store after a section end: the ended bank DRAINING, a READY other bank IN_USE from the end
cell (R104). -/
def Route.ended (r : Route) (bank : Bank) : Route :=
  let drained := r.setBank bank { r.bank bank with state := .draining }
  if (r.bank bank.other).state = .ready then
    drained.setBank bank.other
      { r.bank bank.other with state := .inUse, startCell := some (r.bank bank).endCell }
  else drained

theorem endSection_eq (bank : Bank) (s : State) :
    s.endSection bank =
      let ended := s.route.bank bank
      let other := s.route.bank bank.other
      let drained := s.route.setBank bank { ended with state := .draining }
      let chained := drained.setBank bank.other
        { other with state := .inUse, startCell := some ended.endCell }
      if other.state = .ready then
        offerReport (.route .started bank.other other.sectionId ended.endCell
            (ended.endCell + other.length) (some .chain) none chained.a.state chained.b.state
            s.line.newest) ((drainBank bank s).setRoute chained)
      else offerReport (.route .unknownAhead bank ended.sectionId ended.startNat ended.endCell none
          none drained.a.state drained.b.state s.line.newest) (drainBank bank s) := by
  have hroute := drainBank_route bank s
  have hline : (drainBank bank s).line = s.line := drainBank_frame bank s .line (by decide)
  have hother : (drainBank bank s).route.bank bank.other = s.route.bank bank.other := by
    rw [hroute, Route.setBank_other]
  have hend : ((drainBank bank s).route.bank bank).endCell = (s.route.bank bank).endCell := by
    rw [hroute, Route.setBank_same]
    rfl
  rw [State.endSection, chainOrUnknown, hother]
  refine if_congr Iff.rfl ?_ ?_
  · rw [startBank_eq, hend, hother, hline, hroute]
  · rw [offerRoute, routeReport, hline, hroute, Route.setBank_same]
    rfl

theorem endSection_route (bank : Bank) (s : State) :
    (s.endSection bank).route = s.route.ended bank := by
  have hoffer : ∀ (r : Report) (t : State), (offerReport r t).route = t.route :=
    fun r t => offerReport_frame r t .route (by decide)
  rw [endSection_eq, Route.ended]
  dsimp only
  split
  · rw [hoffer]
    rfl
  · rw [hoffer, drainBank_route]

theorem Route.ended_same (r : Route) (bank : Bank) :
    (r.ended bank).bank bank = { r.bank bank with state := .draining } := by
  unfold Route.ended
  dsimp only
  split <;> cases bank <;> rfl

theorem Route.ended_ready {r : Route} {bank : Bank} (h : (r.bank bank.other).state = .ready) :
    (r.ended bank).bank bank.other =
      { r.bank bank.other with state := .inUse, startCell := some (r.bank bank).endCell } := by
  rw [Route.ended, if_pos h, Route.setBank_same]

theorem Route.ended_other {r : Route} {bank : Bank} (h : (r.bank bank.other).state ≠ .ready) :
    (r.ended bank).bank bank.other = r.bank bank.other := by
  rw [Route.ended, if_neg h, Route.setBank_other]

/-! ## The end test -/

theorem Route.inUse_eq_none {r : Route} (h : ∀ bank, (r.bank bank).state ≠ .inUse) :
    r.inUse = none := by
  have ha : r.a.state ≠ .inUse := h .a
  have hb : r.b.state ≠ .inUse := h .b
  rw [Route.inUse, if_neg ha, if_neg hb]

theorem Route.inUse_eq_some {r : Route} {bank : Bank} (h : r.inUse = some bank) :
    (r.bank bank).state = .inUse := by
  unfold Route.inUse at h
  split at h
  · cases h
    assumption
  · split at h
    · cases h
      assumption
    · cases h

theorem Route.inUse_of_single {r : Route} {bank : Bank} (h : (r.bank bank).state = .inUse)
    (hother : (r.bank bank.other).state ≠ .inUse) : r.inUse = some bank := by
  cases bank with
  | a => exact if_pos h
  | b => exact (if_neg hother).trans (if_pos h)

theorem endDue_inUse {s : State} {bank : Bank} (h : s.endDue = some bank) :
    (s.route.bank bank).state = .inUse := by
  unfold State.endDue at h
  split at h
  · rename_i x hx
    split at h
    · cases h
      exact Route.inUse_eq_some hx
    · cases h
  · cases h

theorem endDue_none {s : State} (h : ∀ bank, (s.route.bank bank).state ≠ .inUse) :
    s.endDue = none := by
  rw [State.endDue, Route.inUse_eq_none h]

theorem endDue_single {s : State} {bank : Bank} (h : (s.route.bank bank).state = .inUse)
    (hother : (s.route.bank bank.other).state ≠ .inUse) :
    s.endDue = if (s.route.bank bank).endCell < s.line.inputCell then some bank else none := by
  rw [State.endDue, Route.inUse_of_single h hother]
  refine if_congr ?_ rfl rfl
  rw [Line.newest]
  omega

/-- R104: the section that may end after an end is the chained one. -/
theorem endSection_due {s : State} {bank next : Bank} (h : (s.endSection bank).endDue = some next) :
    next = bank.other := by
  have hinUse := endDue_inUse h
  rw [endSection_route] at hinUse
  rcases Bank.eq_or_other next bank with rfl | hnext
  · rw [Route.ended_same] at hinUse
    cases hinUse
  · exact hnext

/-- R104: after the chained section too has ended, both banks are DRAINING. -/
theorem endSection_endSection (bank : Bank) (s : State) :
    ((s.endSection bank).endSection bank.other).endDue = none := by
  refine endDue_none fun x => ?_
  rw [endSection_route, endSection_route]
  rcases Bank.eq_or_other x bank with rfl | rfl
  · have hdraining : ((s.route.ended x).bank x.other.other).state = .draining := by
      rw [Bank.other_other, Route.ended_same]
    have hkept : ((s.route.ended x).ended x.other).bank x.other.other =
        (s.route.ended x).bank x.other.other := Route.ended_other (by rw [hdraining]; decide)
    rw [Bank.other_other] at hkept hdraining
    rw [hkept, hdraining]
    decide
  · rw [Route.ended_same]
    exact BankState.noConfusion

theorem endChain_none {s : State} (n : Nat) (h : s.endDue = none) : endChain n s = s := by
  cases n with
  | zero => rfl
  | succ n => rw [endChain, h]

theorem endChain_some {s : State} {bank : Bank} (n : Nat) (h : s.endDue = some bank) :
    endChain (n + 1) s = endChain n (s.endSection bank) := by
  rw [endChain, h]
  rfl

/-! ## The settled obligation -/

theorem BankRecord.length_eq (b : BankRecord) : b.length = (b.header.map (·.length)).getD 0 := by
  unfold BankRecord.length
  cases b.header <;> rfl

theorem BankRecord.sectionId_eq (b : BankRecord) :
    b.sectionId = (b.header.map (·.sectionId)).getD 0 := by
  unfold BankRecord.sectionId
  cases b.header <;> rfl

/-- Settles O24: one section end in closed form, at most two of them by the states that each leaves the
banks in, and the notices one by one. -/
theorem sectionEndChains : Obligations.SectionEndChains := by
  refine ⟨fun s => ?_, fun b => ⟨b.length_eq, b.sectionId_eq⟩,
    fun s => ⟨endDue_none, fun bank h hother => ?_⟩, fun s => ?_⟩
  · intro ends
    have hends : ends = fun bank u => u.endSection bank := by
      funext bank u
      rw [endSection_eq, drainBank_eq]
      rfl
    rw [hends]
    clear_value ends
    refine ⟨fun h => by rw [endTest, endChain_none 2 h], fun bank h => ?_⟩
    intro ended other t
    have hchain : endTest s = takeNotices (endChain 1 t) := by rw [endTest, endChain_some 1 h]
    have hroute : t.route = s.route.ended bank := endSection_route bank s
    rw [hroute]
    refine ⟨Route.ended_same _ _, Route.ended_ready, Route.ended_other,
      fun hnone => by rw [hchain, endChain_none 1 hnone], fun next hnext => ?_⟩
    obtain rfl := endSection_due hnext
    exact ⟨rfl, endSection_endSection bank s, by rw [hchain, endChain_some 0 hnext]; rfl⟩
  · rw [endDue_single h hother, BankRecord.endCell, BankRecord.length_eq]
    rfl
  · intro frees emptied kept
    have hfrees : frees = fun u bank => freePassed bank u := by
      funext u bank
      rw [freePassed_eq]
      rfl
    have hempty : ∀ m : Marker, decide (m.pending = []) = m.pending.isEmpty := fun m => by
      cases m.pending <;> rfl
    have hkept : kept = s.thinned := by
      simp only [kept, State.thinned, setQueue, ne_eq, decide_not, hempty]
    have hemptied : emptied = s.emptiedBanks := by
      simp only [emptied, State.emptiedBanks, hempty]
    rw [hfrees, hkept, hemptied]
    refine ⟨dropEmptied_eq false s, dropEmptied_true_eq s, rfl⟩

/-! ## Track markers -/

section Judged

variable {cls : MarkerClass} {param : Byte} {stamp : Distance} {s : State} {n : Nat}

theorem offerMarker_order {tail : Nat} (h : convertStamp stamp s = .cell n)
    (htail : s.tailCell = some tail) (hlt : n < tail) : offerMarker cls param stamp s =
      refuseMarker .order cls param stamp (some n) (some tail) s := by
  rw [offerMarker, h]
  dsimp only
  rw [htail]
  exact if_pos (by simpa using hlt)

theorem not_below_tail (htail : ∀ tail ∈ s.tailCell, tail ≤ n) :
    ¬s.tailCell.any (fun tail => decide (n < tail)) = true := by
  rw [Option.any_eq_true]
  rintro ⟨tail, hmem, hlt⟩
  exact Nat.not_lt.mpr (htail tail hmem) (of_decide_eq_true hlt)

variable (h : convertStamp stamp s = .cell n) (htail : ∀ tail ∈ s.tailCell, tail ≤ n)

include h htail

theorem offerMarker_full (hfull : 30 ≤ s.trackCount) : offerMarker cls param stamp s =
    refuseMarker .full cls param stamp (some n) none (setLoss true s) := by
  rw [offerMarker, h]
  dsimp only
  rw [if_neg (not_below_tail htail), if_pos hfull]

theorem offerMarker_queues (hplace : s.trackCount < 30) : offerMarker cls param stamp s =
    queueTrack cls param n s := by
  rw [offerMarker, h]
  dsimp only
  rw [if_neg (not_below_tail htail), if_neg (Nat.not_le.mpr hplace)]

end Judged

theorem Route.inUse_isSome (r : Route) :
    r.inUse.isSome = true ↔ ∃ bank, (r.bank bank).state = .inUse := by
  constructor
  · intro h
    obtain ⟨bank, hbank⟩ := Option.isSome_iff_exists.1 h
    exact ⟨bank, Route.inUse_eq_some hbank⟩
  · rintro ⟨bank, hbank⟩
    by_contra hnone
    rw [Route.inUse] at hnone
    cases bank with
    | a => exact hnone (by rw [if_pos (show r.a.state = .inUse from hbank)]; rfl)
    | b =>
      refine hnone ?_
      rw [if_pos (show r.b.state = .inUse from hbank)]
      split <;> rfl

theorem BankRecord.anchoredAt_iff (r : BankRecord) (cls : MarkerClass) (param : Byte) :
    r.anchoredAt cls param = true ↔
      r.state = .ready ∧ ∃ h ∈ r.header, h.anchor = some (cls, param) := by
  unfold BankRecord.anchoredAt
  cases r.header <;> simp

/-- R103: the offer has no effect while a bank is IN_USE, or where no bank is anchored. -/
theorem offerAnchor_none {cls : MarkerClass} {param : Byte} {cell : Nat} {s : State}
    (h : s.route.inUse.isSome = true ∨ ∀ bank, (s.route.bank bank).anchoredAt cls param = false) :
    offerAnchor cls param cell s = s := by
  unfold offerAnchor
  split
  · rfl
  · rename_i hfree
    have hanchor := h.resolve_left hfree
    have ha : s.route.a.anchoredAt cls param = false := hanchor .a
    have hb : s.route.b.anchoredAt cls param = false := hanchor .b
    rw [ha, hb]
    rfl

/-- R103: the first anchored bank starts, and the end test follows. -/
theorem offerAnchor_starts {cls : MarkerClass} {param : Byte} {cell : Nat} {s : State} {bank : Bank}
    (hfree : s.route.inUse.isSome = false)
    (hanchor : (s.route.bank bank).anchoredAt cls param = true)
    (hfirst : bank = .b → s.route.a.anchoredAt cls param = false) :
    offerAnchor cls param cell s = endTest
      (startBank bank (anchorStart bank cell s.route) .anchor (some (cls, param)) s) := by
  rw [offerAnchor, if_neg (by simp [hfree])]
  cases bank with
  | a => exact if_pos hanchor
  | b =>
    rw [if_neg (by simp [hfirst rfl])]
    exact if_pos hanchor

/-- R103: the greater of the marker's cell and the end cell of a DRAINING other bank. -/
theorem anchorStart_eq (bank : Bank) (cell : Nat) (r : Route) :
    anchorStart bank cell r =
      if (r.bank bank.other).state = .draining ∧ cell < (r.bank bank.other).endCell then
        (r.bank bank.other).endCell else cell := by
  unfold anchorStart
  by_cases hdraining : (r.bank bank.other).state = .draining
  · simp only [hdraining, if_true, true_and]
    split <;> omega
  · rw [if_neg hdraining, if_neg fun h => hdraining h.1]

/-- Settles O19: the tests of R71 in order, and for a queued marker the offer for anchoring. -/
theorem trackMarkerJudged : Obligations.TrackMarkerJudged := by
  intro cls param stamp s refused tails
  refine ⟨fun h => by rw [offerMarker, h]; rfl, fun h => by rw [offerMarker, h]; rfl, fun n h => ?_⟩
  refine ⟨fun tail htail hlt => offerMarker_order h htail hlt,
    fun htail hfull => offerMarker_full h htail hfull, fun htail hplace => ?_⟩
  intro queued applied inUse anchored
  have hqueue : offerMarker cls param stamp s = applied (offerAnchor cls param n queued) :=
    offerMarker_queues h htail hplace
  have hroute : queued.route = s.route := rfl
  have hanchored : ∀ bank, (s.route.bank bank).anchoredAt cls param = true ↔ anchored bank :=
    fun bank => BankRecord.anchoredAt_iff _ _ _
  have hinUse : s.route.inUse.isSome = true ↔ inUse := Route.inUse_isSome _
  have hline : queued.line = s.line := rfl
  rw [hqueue]
  clear_value applied
  refine ⟨fun hidle => ?_, fun bank hfree hbank hfirst => ?_⟩
  · rw [offerAnchor_none]
    rw [hroute]
    refine hidle.imp hinUse.2 fun hnone bank => ?_
    rw [← Bool.not_eq_true, hanchored]
    exact hnone bank
  · intro b other drained start route
    rw [offerAnchor_starts (bank := bank), startBank_eq, hroute, anchorStart_eq, hline]
    · rfl
    · rw [hroute, ← Bool.not_eq_true, hinUse]
      exact hfree
    · rw [hroute, hanchored]
      exact hbank
    · intro hb
      rw [hroute, ← Bool.not_eq_true]
      exact fun ha => hfirst hb ((hanchored .a).1 ha)

end Sys2Proof.Machine
end

section
/-! The requests that read (R91, R99, R146, R174): the bytes of a field (R177), and the payload of each reply
by the fields of section 12.2. -/

set_option Elab.async false

namespace Sys2Proof.Machine

/-! ## Fields as bytes -/

/-- R177: each byte of a field, most significant first. -/
theorem be_getD {w i : Nat} (n : Nat) (h : i < w) :
    ((be w n).getD i 0).toNat = n / 256 ^ (w - 1 - i) % 256 := by
  induction w generalizing i with
  | zero => exact absurd h (Nat.not_lt_zero i)
  | succ w ih =>
    cases i with
    | zero => simp [be]
    | succ i =>
      rw [be, List.getD_cons_succ, ih (Nat.lt_of_succ_lt_succ h)]
      congr 3
      omega

theorem be_zero (w : Nat) : be w 0 = List.replicate w 0 := by
  induction w with
  | zero => rfl
  | succ w ih => simp [be, ih, List.replicate_succ]

/-- R177: a signed field is the two's complement of its value. -/
theorem beInt_complement (w : Nat) (x : Int) :
    ∃ n : Nat, beInt w x = be w n ∧ n < 256 ^ w ∧ ((256 ^ w : Nat) : Int) ∣ x - n := by
  have hpos : (0 : Int) < ((256 ^ w : Nat) : Int) := by positivity
  have hlow := Int.emod_nonneg x (ne_of_gt hpos)
  have hhigh := Int.emod_lt_of_pos x hpos
  refine ⟨(x % ((256 ^ w : Nat) : Int)).toNat, rfl, by omega, ?_⟩
  rw [Int.toNat_of_nonneg hlow]
  exact Int.dvd_self_sub_emod

/-! ## The payloads -/

theorem Counters.bytes_eq (c : Counters) : c.bytes =
    [c.foreCheck, c.aftCheck, c.seqGaps, c.aftDrops, c.foreDrops, c.reportDrops, c.requestDrops,
      c.commandSkips, c.capturesMissed].flatMap (be 2) := by
  simp [Counters.bytes]

theorem computationBytes_eq (x : Option Computation) : computationBytes x =
    match x with
    | some m =>
      be 1 1 ++ be 1 m.quality.code ++ be 1 (boolCode m.routeKnown) ++ beInt 2 m.estimate ++
        be 1 m.authority.code ++ beInt 2 m.clamped ++ beInt 2 m.angle
    | none => List.replicate 10 0 := by
  cases x
  · exact be_zero 10
  · rfl

theorem Marker.bytes_eq (m : Marker) : m.bytes =
    be 2 m.serial ++ be 1 m.kind.code ++ be 1 m.cls.val ++ be 1 m.param.toNat ++ be 6 m.cell ++
      be 1 ((m.bank.map (·.code)).getD 0) ++
      be 2 ((allCars.map (fun d => if d ∈ m.pending then 2 ^ d.val else 0)).sum) := by
  rw [Marker.bytes, singleton_eq_be, orZero_eq]
  rfl

theorem anchorBytes_eq (a : Option (MarkerClass × Byte)) : anchorBytes a =
    match a with
    | some (cls, param) => be 1 1 ++ be 1 cls.val ++ be 1 param.toNat
    | none => List.replicate 3 0 := by
  cases a with
  | none => exact be_zero 3
  | some a => rw [anchorBytes, singleton_eq_be]

theorem headerBytes_eq (h : Option SectionHeader) : headerBytes h =
    match h with
    | some x => be 1 1 ++ be 2 x.sectionId ++ be 2 x.length ++ anchorBytes x.anchor ++
        be 1 x.endClass.val
    | none => List.replicate 9 0 := by
  cases h
  · exact be_zero 9
  · rfl

theorem startCellBytes_eq (x : Option Nat) : startCellBytes x =
    match x with
    | some n => be 1 1 ++ be 6 n
    | none => List.replicate 7 0 := by
  cases x
  · exact be_zero 7
  · rfl

theorem markersFrom_length (q : List Marker) (i : Nat) :
    (markersFrom q i).length = min 3 (q.length - i) := by
  rw [markersFrom, List.length_take, List.length_drop]

/-! ## The settled obligation -/

/-- A request that is answered from the records as they stand. -/
theorem serve_reads {name : RequestName} {act : List Byte → State → Reply × State} {s : State}
    {r : Request} {rest : List Request} {a : Reply} (h : Serves s name r rest)
    (e : act r.payload (s.taken rest) = (a, s.taken rest)) :
    (.next (serve name act s) : Answer) = .next (s.answered r rest a) :=
  congrArg Host.Outcome.next (serve_answers h e)

/-- Settles O31: the bytes of a field, the codes one by one, and each reply by the fields of its
payload. -/
theorem readsChangeNothing : Obligations.ReadsChangeNothing := by
  refine ⟨fun w n => ⟨be_length w n, fun i hi => be_getD n hi⟩, beInt_complement, by decide,
    fun s r rest => ?_⟩
  intro p status car record held
  refine ⟨fun h => serve_reads h ?_, fun h => ⟨fun hp => serve_reads h ?_, fun c hp =>
    serve_reads h ?_⟩, fun h => ⟨fun hp => serve_reads h ?_, fun hp => serve_reads h ?_⟩,
    fun h => ⟨fun hp => serve_reads h ?_, fun bank hp => serve_reads h ?_⟩⟩
  · have hstatus : statusPayload (s.taken rest) = status := by
      rw [statusPayload, Counters.bytes_eq, serialCode_eq]
      rfl
    rw [actReadStatus, hstatus]
  · rw [actReadCar, readFin_none hp]
    rfl
  · have hcar : carPayload c (s.taken rest) = car c := by
      rw [carPayload, serialCode_eq, computationBytes_eq]
      rfl
    rw [actReadCar, hp, readFin_val]
    dsimp only
    rw [hcar]
  · exact if_pos hp
  · have hrecord : record = Marker.bytes := funext fun m => (Marker.bytes_eq m).symm
    rw [actReadMarkers]
    refine (if_neg (Nat.not_lt.mpr hp)).trans ?_
    dsimp only
    rw [markersFrom_length, hrecord]
    rfl
  · rw [actReadBank, readBankCode_none hp]
    rfl
  · have hheld : bankPayload ((s.taken rest).route.bank bank) = held (s.route.bank bank) := by
      rw [bankPayload, headerBytes_eq, startCellBytes_eq]
      simp only [anchorBytes_eq]
      rfl
    rw [actReadBank, hp, readBankCode_code]
    dsimp only
    rw [hheld]

end Sys2Proof.Machine
end

section
/-! A step is at most one event of a block behind the ports, with traffic before and after it. -/

set_option Elab.async false

namespace Sys2Proof.Machine

/-! ## One event -/

/-- An event of a block behind the ports: a frame delivered, a timer expired, a restart, a request
executed. -/
inductive BlockEvent : State → State → Prop
  | deliver (role : Role) (p : List Byte) (s : State) : BlockEvent s (deliver role p s)
  | odometryExpiry (s : State) : BlockEvent s (odometryExpiry s)
  | channelExpiry (x : Channel) (s : State) : BlockEvent s (channelExpiry x s)
  | commandExpiry (s : State) : BlockEvent s (commandExpiry s)
  | attentionExpiry (s : State) : BlockEvent s (attentionExpiry s)
  | restart (s : State) : BlockEvent s (restartBlocks s)
  | act {name : RequestName} {act : List Byte → State → Reply × State} (h : name.act = some act)
      (p : List Byte) (s : State) : BlockEvent s (act p s).2

/-- `t` is reached from `s` by traffic and at most one event. -/
inductive OneEvent (s : State) : State → Prop
  | none {t : State} (h : Traffic s t) : OneEvent s t
  | some {u v t : State} (before : Traffic s u) (event : BlockEvent u v) (after : Traffic v t) :
      OneEvent s t

theorem Traffic.refl (s : State) : Traffic s s := .of_frame (.refl [] s)

theorem BlockEvent.one {s t : State} (h : BlockEvent s t) : OneEvent s t := .some (.refl s) h (.refl t)

theorem OneEvent.after {s t u : State} (h : OneEvent s t) (k : Traffic t u) : OneEvent s u := by
  cases h with
  | none h => exact .none (h.trans k)
  | some before event after => exact .some before event (after.trans k)

theorem Traffic.then {s t u : State} (h : Traffic s t) (k : OneEvent t u) : OneEvent s u := by
  cases k with
  | none k => exact .none (h.trans k)
  | some before event after => exact .some (h.trans before) event after

theorem forward_traffic (port : Port) (f : Frame) (s : State) : Traffic s (forward port f s) :=
  .of_frame (forward_frame port f s)

/-- R7: the frame delivered and its copy forwarded, in either order. -/
theorem handOver_one (e : IntakeEntry) (port : Port) (f : Frame) (s : State) :
    OneEvent s (handOver e port f s) := by
  have hbook := setBook_traffic s (s.book.choices + 1)
  have hdeliver : ∀ t, OneEvent t (deliver e.role f.payload t) := fun t => (BlockEvent.deliver _ _ t).one
  unfold handOver
  dsimp only
  split
  · split
    · exact (hdeliver s).after (forward_traffic _ _ _)
    · split
      · exact (hbook.trans (forward_traffic _ _ _)).then (hdeliver _)
      · exact (hbook.then (hdeliver _)).after (forward_traffic _ _ _)
  · exact hdeliver s

/-- R1, R6: a run of bytes reaches at most one block. -/
theorem receiveRun_one (port : Port) (run : List Byte) (s : State) :
    OneEvent s (receiveRun port run s) := by
  unfold receiveRun
  split
  · exact .none (by cases port <;> exact .of_frame (setCounters_frame _ _))
  · unfold intakeFrame
    split
    · split
      · exact .none (acceptRequest_traffic _ _)
      · exact .none (forward_traffic _ _ _)
    · split
      · exact .none (forward_traffic _ _ _)
      · split
        · unfold matchedFrame
          split
          · exact .none (.refl s)
          · exact (Traffic.of_frame (acceptSeq_frame _ _ _ _)).then (handOver_one _ _ _ _)
        · exact .none (forward_traffic _ _ _)

theorem unlessReset_one {f : State → State} {s : State} (h : OneEvent s (f s)) :
    OneEvent s (unlessReset f s) := by
  unfold unlessReset
  split
  · exact .none (.refl s)
  · exact h

theorem placeReply_traffic (r : Request) (a : Reply) (s : State) : Traffic s (placeReply r a s) :=
  .of_frame (placeReply_frame r a s)

theorem serveUnknown_one (s : State) : OneEvent s (serveUnknown s) := by
  unfold serveUnknown
  split
  · exact .none (.refl s)
  · rename_i r t ht
    obtain ⟨rest, -, -, rfl⟩ := takeRequest_some ht
    exact .none ((taken_traffic s rest).trans (placeReply_traffic _ _ _))

/-- R171, R172: a served request is at most one event of its owning block. -/
theorem serve_one {name : RequestName} {act : List Byte → State → Reply × State}
    (h : name.act = some act) (s : State) : OneEvent s (serve name act s) := by
  unfold serve
  split
  · exact .none (.refl s)
  · rename_i r t ht
    obtain ⟨rest, -, -, rfl⟩ := takeRequest_some ht
    refine (taken_traffic s rest).then (OneEvent.after ?_ (placeReply_traffic _ _ _))
    unfold judge
    split
    · exact .none (.refl _)
    · split
      · exact .none (.refl _)
      · exact (BlockEvent.act h _ _).one

/-- R158: Warm Restart places its reply and then restarts every block. -/
theorem serveWarmRestart_one (s : State) : OneEvent s (serveWarmRestart s) := by
  unfold serveWarmRestart
  split
  · exact .none (.refl s)
  · rename_i r t ht
    obtain ⟨rest, -, -, rfl⟩ := takeRequest_some ht
    refine (taken_traffic s rest).then ?_
    split
    · exact .none (placeReply_traffic _ _ _)
    · split
      · exact .none (placeReply_traffic _ _ _)
      · exact (Traffic.of_frame (restartQueues_frame _ _)).then (BlockEvent.restart _).one

/-- An event of the pins, the ports or the timers is at most one event of a block, but for the release of
the cold-reset pin. -/
theorem event_one {c : Instr} {f : State → State} (hf : eventOf c = some f) (s : State) :
    OneEvent s (f s) ∨ Traffic .reset (f s) := by
  cases c <;> cases hf
  case coldResetAssert => exact .inl (.none (.of_frame (assertReset_frame s)))
  case coldResetRelease straps => exact .inr (releaseReset_traffic straps s)
  case portFrameReceived port run => exact .inl (unlessReset_one (receiveRun_one port run s))
  case aftTransmitEnd => exact .inl (unlessReset_one (.none (.of_frame (aftEnd_frame s))))
  case foreTransmitEnd => exact .inl (unlessReset_one (.none (.of_frame (foreEnd_frame s))))
  case odometryTimeout => exact .inl (unlessReset_one (BlockEvent.odometryExpiry s).one)
  case channelTimeout x => exact .inl (unlessReset_one (BlockEvent.channelExpiry x s).one)
  case commandTimerExpiry => exact .inl (unlessReset_one (BlockEvent.commandExpiry s).one)
  case attentionTimerExpiry => exact .inl (unlessReset_one (BlockEvent.attentionExpiry s).one)
  case unknownRequest => exact .inl (serveUnknown_one s)

theorem served_one (name : RequestName) (s : State) : OneEvent s (name.served s) := by
  unfold RequestName.served
  split
  · rename_i act h
    exact serve_one h s
  · exact serveWarmRestart_one s

/-- A step is at most one event of a block, or leaves the part as after a reset. -/
theorem step_one {s t : State} (h : step s = .next t) : OneEvent s t ∨ Traffic .reset t := by
  unfold step at h
  split at h
  · cases h
    exact .inl (.none (.refl s))
  · rename_i c rest _
    have hpending := setPending_traffic s rest
    rcases event_or_command c with ⟨f, hf⟩ | ⟨name, rfl⟩
    · rw [exec_event hf] at h
      cases h
      exact (event_one hf _).imp_left hpending.then
    · rw [exec_command] at h
      cases h
      exact .inl (hpending.then (served_one name _))

/-- What every event of a block keeps, a step keeps; `H` is a condition on the state before the event
that the step is given. -/
theorem step_keeps_of_event {H P : State → Prop} (hH : ∀ {s t}, Traffic s t → H s → H t)
    (hP : ∀ {s t}, Traffic s t → P s → P t) (hreset : P .reset)
    (hevent : ∀ {s t}, BlockEvent s t → H s → P s → P t) {s t : State} (hs : H s) (h : P s)
    (hstep : step s = .next t) : P t := by
  rcases step_one hstep with (hnone | ⟨before, event, after⟩) | hafter
  · exact hP hnone h
  · exact hP after (hevent event (hH before hs) (hP before h))
  · exact hP hafter hreset

end Sys2Proof.Machine
end

section
/-! What keeps a condition on the marker queue: of the blocks' events only passes, section ends, line clears,
queued markers, ended holds, restarts, written car profiles and route requests reach what the condition
speaks of. -/

set_option Elab.async false

namespace Sys2Proof.Machine

/-! ## States with the same markers -/

/-- Two states agree on the marker queue, its serial counter, the regime records, the attention record, the
route store, the notices that wait (R105) and which cars are enabled. -/
structure SameMarkers (s t : State) : Prop where
  queue : t.marker.queue = s.marker.queue
  counter : t.marker.serialCounter = s.marker.serialCounter
  cars : t.marker.cars = s.marker.cars
  attention : t.marker.attention = s.marker.attention
  route : t.route = s.route
  notices : t.book.notices = s.book.notices
  enabled : ∀ c, t.enabled c = s.enabled c

theorem SameMarkers.trans {s t u : State} (h : SameMarkers s t) (k : SameMarkers t u) :
    SameMarkers s u where
  queue := k.queue.trans h.queue
  counter := k.counter.trans h.counter
  cars := k.cars.trans h.cars
  attention := k.attention.trans h.attention
  route := k.route.trans h.route
  notices := k.notices.trans h.notices
  enabled := fun c => (k.enabled c).trans (h.enabled c)

/-- What changes neither the marker unit, the route store, the bookkeeping nor a profile keeps the
markers. -/
theorem SameMarkers.of_profiles {fs : List Field} {s t : State} (h : SameBut fs s t)
    (k : SameProfiles s t)
    (hf : Field.marker ∉ fs ∧ Field.route ∉ fs ∧ Field.book ∉ fs := by decide) : SameMarkers s t := by
  obtain ⟨hmarker, hroute, hbook⟩ := hf
  have emarker : t.marker = s.marker := h .marker hmarker
  exact
    { queue := by rw [emarker]
      counter := by rw [emarker]
      cars := by rw [emarker]
      attention := by rw [emarker]
      route := h .route hroute
      notices := congrArg Book.notices (h .book hbook)
      enabled := fun c => by simp only [State.enabled, State.carProfile, k.2] }

theorem SameMarkers.of_frame {fs : List Field} {s t : State} (h : SameBut fs s t)
    (hf : Field.marker ∉ fs ∧ Field.route ∉ fs ∧ Field.book ∉ fs := by decide)
    (hprofiles : Field.profile ∉ fs ∧ Field.demand ∉ fs := by decide) : SameMarkers s t :=
  .of_profiles h (.of_frame h hprofiles) hf

theorem SameMarkers.of_traffic {s t : State} (h : Traffic s t) : SameMarkers s t := by
  have emarker : t.marker = s.marker := h.frame .marker (by decide)
  have edemand : t.demand = s.demand := h.frame .demand (by decide)
  exact
    { queue := by rw [emarker]
      counter := by rw [emarker]
      cars := by rw [emarker]
      attention := by rw [emarker]
      route := h.frame .route (by decide)
      notices := h.notices
      enabled := fun c => by simp only [State.enabled, State.carProfile, edemand] }

/-- A line profile written reaches no marker. -/
theorem setProfile_same (x : LineProfile) (s : State) : SameMarkers s (s.setProfile x) :=
  ⟨rfl, rfl, rfl, rfl, rfl, rfl, fun _ => rfl⟩

theorem setLoss_same (x : Bool) (s : State) : SameMarkers s (setLoss x s) :=
  ⟨rfl, rfl, rfl, rfl, rfl, rfl, fun _ => rfl⟩

theorem writeEntry_same (r : Regime) (cls : MarkerClass) (e : RegimeEntry) (s : State) :
    SameMarkers s (writeEntry r cls e s) := ⟨rfl, rfl, rfl, rfl, rfl, rfl, fun _ => rfl⟩

theorem setLine_same (l : Line) (s : State) : SameMarkers s (s.setLine l) :=
  .of_frame (setLine_frame _ _)

theorem offerReport_same (r : Report) (s : State) : SameMarkers s (offerReport r s) :=
  .of_frame (offerReport_frame r s)

/-! ## A line clear -/

/-- The bank record after a line clear (R108). -/
def BankRecord.cleared (r : BankRecord) : BankRecord :=
  if r.state.inSection then { r with state := .free } else r

/-- The route store after a line clear (R108). -/
def Route.cleared (r : Route) : Route := ⟨r.a.cleared, r.b.cleared⟩

theorem BankRecord.cleared_state (r : BankRecord) : r.cleared.state.inSection = false := by
  unfold BankRecord.cleared
  split
  · rfl
  · rename_i h
    simpa using h

theorem Route.cleared_cleared (r : Route) : r.cleared.cleared = r.cleared := by
  have hbank : ∀ b : BankRecord, b.cleared.cleared = b.cleared := fun b =>
    if_neg (by rw [b.cleared_state]; decide)
  simp only [Route.cleared, hbank]

theorem Route.cleared_bank (r : Route) (bank : Bank) :
    r.cleared.bank bank = (r.bank bank).cleared := by cases bank <;> rfl

theorem freeCleared_route (bank : Bank) (s : State) :
    (freeCleared bank s).route = s.route.setBank bank (s.route.bank bank).cleared := by
  unfold freeCleared BankRecord.cleared
  split
  · exact offerRoute_frame _ _ _ _ _ .route (by decide)
  · cases bank <;> rfl

theorem routeClear_route (s : State) : (routeClear s).route = s.route.cleared := by
  rw [routeClear, freeCleared_route, freeCleared_route]
  rfl

theorem MarkerUnit.emptied_emptied (m : MarkerUnit) : m.emptied.emptied = m.emptied := by
  have hcars : ∀ v : Vector CarRegime 12,
      (v.map CarRegime.released).map CarRegime.released = v.map CarRegime.released := fun v => by
    rw [Vector.map_map]
    rfl
  simp only [MarkerUnit.emptied, hcars]

theorem markerClear_frame_own (s : State) :
    SameBut [.ports, .counters, .marker] s (markerClear s) := by
  have hset : SameBut [.ports, .counters, .marker] s (s.setMarker s.marker.emptied) :=
    (setMarker_frame _ _).mono (by decide)
  rw [markerClear_eq]
  dsimp only
  cases s.marker.attention with
  | none => exact hset
  | some hold => exact hset.trans ((offerReport_frame _ _).mono (by decide))

theorem markerClear_marker (s : State) : (markerClear s).marker = s.marker.emptied := by
  rw [markerClear_eq]
  dsimp only
  cases s.marker.attention with
  | none => rfl
  | some hold => exact offerReport_marker _ _

/-- What one answer to a line clear leaves in the marker unit, the route store and the bookkeeping. -/
theorem answerClear_blocks (t : Task) (s : State) :
    (answerClear t s).marker = (if t = .marker then s.marker.emptied else s.marker) ∧
      (answerClear t s).route = (if t = .route then s.route.cleared else s.route) ∧
      (answerClear t s).book = s.book := by
  cases t with
  | marker =>
    exact ⟨markerClear_marker s, markerClear_frame_own s .route (by decide),
      markerClear_frame_own s .book (by decide)⟩
  | route =>
    exact ⟨routeClear_frame s .marker (by decide), routeClear_route s,
      routeClear_frame s .book (by decide)⟩
  | capture =>
    exact ⟨captureClear_frame s .marker (by decide), captureClear_frame s .route (by decide),
      captureClear_frame s .book (by decide)⟩
  | report r =>
    exact ⟨offerReport_frame r s .marker (by decide), offerReport_frame r s .route (by decide),
      offerReport_frame r s .book (by decide)⟩

/-- The answers to a line clear, in any order. -/
theorem runTasks_clear (ts : List Task) (s : State) :
    (runTasks answerClear ts s).marker =
        (if .marker ∈ ts then s.marker.emptied else s.marker) ∧
      (runTasks answerClear ts s).route = (if .route ∈ ts then s.route.cleared else s.route) ∧
      (runTasks answerClear ts s).book = s.book := by
  induction ts generalizing s with
  | nil => exact ⟨rfl, rfl, rfl⟩
  | cons t ts ih =>
    obtain ⟨hmarker, hroute, hbook⟩ := ih (answerClear t s)
    obtain ⟨tmarker, troute, tbook⟩ := answerClear_blocks t s
    refine ⟨hmarker.trans ?_, hroute.trans ?_, hbook.trans tbook⟩
    · rw [tmarker]
      by_cases ht : t = .marker
      · simp [ht, MarkerUnit.emptied_emptied]
      · simp [ht, Ne.symm ht]
    · rw [troute]
      by_cases ht : t = .route
      · simp [ht, Route.cleared_cleared]
      · simp [ht, Ne.symm ht]

theorem answerAll_arranged (answer : Task → State → State) (due : Nat) (own : Option Report)
    (s : State) : ∃ o place n, answerAll answer due own s =
      runTasks answer (arrange o place own) (s.setBook { s.book with choices := n }) := by
  unfold answerAll
  split
  · exact ⟨_, _, _, rfl⟩
  · exact ⟨_, _, s.book.choices, rfl⟩

/-- R89, R108: a line clear empties the marker queue and frees the banks, in whatever order the blocks
answer it. -/
theorem lineClear_blocks (own : Option Report) (s : State) :
    (lineClear own s).marker = s.marker.emptied ∧ (lineClear own s).route = s.route.cleared ∧
      (lineClear own s).book.notices = s.book.notices := by
  obtain ⟨o, place, n, harranged⟩ := answerAll_arranged answerClear
    ((s.setLine s.line.cleared).clearDue own) own (s.setLine s.line.cleared)
  obtain ⟨hmarker, hroute, hbook⟩ := runTasks_clear (arrange o place own)
    ((s.setLine s.line.cleared).setBook { s.book with choices := n })
  have hmem : ∀ t ∈ [Task.marker, .route, .capture], t ∈ arrange o place own := fun t ht =>
    (arrange_perm o place own).mem_iff.2 (List.mem_append_left _ ht)
  rw [if_pos (hmem _ (by simp))] at hmarker
  rw [if_pos (hmem _ (by simp))] at hroute
  have hclear : lineClear own s = _ := harranged
  rw [hclear]
  exact ⟨hmarker, hroute, (congrArg Book.notices hbook).trans rfl⟩

/-! ## Conditions on the markers -/

/-- R130: a car is OFF exactly while its profile is disabled. -/
def OffWhereDisabled (s : State) : Prop :=
  ∀ c, (s.channel c).state = .off ↔ s.enabled c = false

/-- A condition on the markers that every operation which reaches them keeps. -/
structure MarkerInvariant (P : State → Prop) : Prop where
  same : ∀ {s t}, SameMarkers s t → P s → P t
  reset : P .reset
  pass : ∀ {s}, P s → P (pass false s)
  endTest : ∀ {s}, P s → P (endTest s)
  lineClear : ∀ own {s}, P s → P (lineClear own s)
  restart : ∀ own {s}, P s → P (restartMarker (Machine.lineClear own s))
  queueTrack : ∀ cls param {cell s}, (∀ tail ∈ s.tailCell, tail ≤ cell) → s.trackCount < 30 → P s →
    P (queueTrack cls param cell s)
  endHold : ∀ e {hold s}, s.marker.attention = some hold → P s → P (endHold hold e s)
  carProfile : ∀ c x {s}, OffWhereDisabled s → P s → P (applyCarProfile c x s)
  setBank : ∀ {bank x s}, (x.state = .draining ↔ (s.route.bank bank).state = .draining) → P s →
    P (setBank bank x s)

theorem onBank_keeps {P : State → Prop} (p : List Byte) {s : State} {act : Bank → Reply × State}
    (hs : P s) (hact : ∀ bank, P (act bank).2) : P (onBank p s act).2 := by
  unfold onBank
  split
  · exact hs
  · exact hact _

section Keeps

variable {P : State → Prop} (h : MarkerInvariant P)

include h

theorem MarkerInvariant.runAdvance (ts : List Task) {s : State} (hs : P s) :
    P (runTasks answerAdvance ts s) := by
  induction ts generalizing s with
  | nil => exact hs
  | cons t ts ih =>
    refine ih ?_
    cases t with
    | marker => exact h.pass hs
    | route => exact h.endTest hs
    | capture => exact h.same (.of_frame (overtakingTest_frame s)) hs
    | report r => exact h.same (offerReport_same r s) hs

theorem MarkerInvariant.advance (k : Nat) (own : State → Option Report) {s : State} (hs : P s) :
    P (advance k own s) := by
  unfold Machine.advance
  split
  · split
    · exact h.same (offerReport_same _ s) hs
    · exact hs
  · dsimp only
    obtain ⟨o, place, n, harranged⟩ := answerAll_arranged answerAdvance
      ((advanceLine (s.line.cut k) s).advanceDue (own (advanceLine (s.line.cut k) s)))
      (own (advanceLine (s.line.cut k) s)) (advanceLine (s.line.cut k) s)
    rw [harranged]
    exact h.runAdvance _ (h.same (.of_traffic (setBook_traffic _ n)) (h.same (setLine_same _ s) hs))

/-! ## Odometry -/

theorem MarkerInvariant.slip {s : State} (hs : P s) : P (slip s) := by
  unfold Machine.slip
  have hodo := h.same (.of_frame (setOdo_frame s { s.odo with uncertain := true, recovery := 0 })) hs
  split
  · exact hodo
  · exact h.same (offerReport_same _ _) hodo

theorem MarkerInvariant.recover (k : Nat) {s : State} (hs : P s) : P (recover k s) := by
  have hodo : ∀ x, P (s.setOdo x) := fun x => h.same (.of_frame (setOdo_frame s x)) hs
  unfold Machine.recover
  split
  · split
    · exact h.same (offerReport_same _ _) (hodo _)
    · exact hodo _
  · exact hs

theorem MarkerInvariant.takeDelta (delta : Int) {s : State} (hs : P s) : P (takeDelta delta s) := by
  have hodo : ∀ x, P (s.setOdo x) := fun x => h.same (.of_frame (setOdo_frame s x)) hs
  unfold Machine.takeDelta
  split
  · exact h.same (offerReport_same _ _) (hodo _)
  · split
    · exact hodo _
    · dsimp only
      split
      · exact hodo _
      · exact h.advance _ _ (hodo _)

theorem MarkerInvariant.setReference (d : Distance) (v : Nat) {s : State} (hs : P s) :
    P (setReference d v s) :=
  h.same (.of_profiles (setReference_frame d v s) (setReference_profiles d v s)) hs

theorem MarkerInvariant.takeOdometry (d : Distance) (v : Nat) (slipped : Bool) {s : State}
    (hs : P s) : P (takeOdometry d v slipped s) := by
  have hslip : ∀ {t}, P t → P (if slipped then Machine.slip t else t) := fun ht => by
    split
    · exact h.slip ht
    · exact ht
  unfold Machine.takeOdometry
  split
  case h_1 => exact hslip (h.setReference d v hs)
  case h_2 =>
    have hspeed := h.same (.of_profiles (setSpeed_frame v s) (setSpeed_profiles v s)) hs
    have hodo := h.same (.of_frame (setOdo_frame (setSpeed v s)
      { (setSpeed v s).odo with timeout := some 100, lastDistance := d })) hspeed
    have hdelta := h.takeDelta (counterDiff d (setSpeed v s).odo.lastDistance) hodo
    unfold takeTracking
    dsimp only
    split
    · exact h.slip hdelta
    · exact h.recover _ hdelta
  case h_3 => exact hslip (h.setReference d v (h.lineClear _ hs))

theorem MarkerInvariant.handleOdometry (p : List Byte) {s : State} (hs : P s) :
    P (handleOdometry p s) := by
  unfold Machine.handleOdometry
  split
  · exact hs
  · split
    · exact h.takeOdometry _ _ _ hs
    · split
      · exact h.takeOdometry _ _ _ hs
      · exact hs

theorem MarkerInvariant.odometryExpiry {s : State} (hs : P s) : P (odometryExpiry s) := by
  unfold Machine.odometryExpiry
  dsimp only
  split
  · have hodo := h.same (.of_frame (setOdo_frame s { s.odo with state := .lost, timeout := none })) hs
    exact h.same (offerReport_same _ _)
      (h.same (.of_profiles (setSpeed_frame 0 _) (setSpeed_profiles 0 _)) hodo)
  · exact hs

/-! ## Markers and holds -/

theorem MarkerInvariant.offerMarker (cls : MarkerClass) (param : Byte) (stamp : Distance) {s : State}
    (hs : P s) : P (offerMarker cls param stamp s) := by
  unfold Machine.offerMarker
  split
  · exact h.same (offerReport_same _ s) hs
  · exact h.same (offerReport_same _ s) hs
  · split
    · exact h.same (offerReport_same _ s) hs
    · rename_i htail
      split
      · exact h.same (offerReport_same _ _) (h.same (setLoss_same true s) hs)
      · rename_i hplace
        refine h.queueTrack cls param (fun tail hmem => ?_) (Nat.not_le.mp hplace) hs
        by_contra hlt
        exact htail ((Option.any_eq_true _ _).2 ⟨tail, hmem, by simpa using hlt⟩)

theorem MarkerInvariant.handleMarker (p : List Byte) {s : State} (hs : P s) :
    P (handleMarker p s) := by
  unfold Machine.handleMarker
  split
  · exact hs
  · split
    · exact hs
    · exact h.offerMarker _ _ _ hs

theorem MarkerInvariant.deliver (role : Role) (p : List Byte) {s : State} (hs : P s) :
    P (deliver role p s) := by
  cases role with
  | sensorP => exact h.same (.of_frame (handleSensor_frame .p p s)) hs
  | sensorQ => exact h.same (.of_frame (handleSensor_frame .q p s)) hs
  | odometry => exact h.handleOdometry p hs
  | markerReader => exact h.handleMarker p hs
  | unitStatus => exact h.same (.of_frame (handleUnitStatus_frame p s)) hs
  | manager => exact hs

theorem MarkerInvariant.attentionExpiry {s : State} (hs : P s) : P (attentionExpiry s) := by
  cases hhold : s.marker.attention with
  | none =>
    unfold Machine.attentionExpiry
    rwa [hhold]
  | some hold =>
    rw [attentionExpiry_held hhold]
    have hend := h.endHold hold.copy.capped hhold hs
    have hlast : SameMarkers (Machine.endHold hold hold.copy.capped s)
        ((Machine.endHold hold hold.copy.capped s).setMarker
          { (Machine.endHold hold hold.copy.capped s).marker with
            lastTimedOut := some hold.serial }) := ⟨rfl, rfl, rfl, rfl, rfl, rfl, fun _ => rfl⟩
    exact h.pass (h.same (offerReport_same _ _) (h.same hlast hend))

/-! ## Restarts and requests -/

theorem MarkerInvariant.restartBlocks {s : State} (hs : P s) : P (restartBlocks s) := by
  have hstate := h.same (.of_frame (setOpState_frame .safe s)) hs
  have hcars := h.same (.of_frame (forCars_frame (f := restartCar)
    (fun c t => setChannel_frame c _ t) (setOpState .safe s))) hstate
  have hodo := h.same (.of_profiles (restartOdometry_frame _) (restartOdometry_profiles _)) hcars
  have hsensor := h.same (.of_frame (setSensor_frame _ .reset)) hodo
  have hdemand := h.same (.of_profiles (setDemand_frame _ _) (restartDemand_profiles _)) hsensor
  exact h.restart _ hdemand

theorem MarkerInvariant.release (serial : Nat) (replacement : Option RegimeEntry) {s : State}
    (hs : P s) : P (release serial replacement s).2 := by
  by_cases hheld : ∃ hold ∈ s.marker.attention, hold.serial = serial
  · obtain ⟨hold, hhold, rfl⟩ := hheld
    rw [release_held replacement hhold, done_snd, releaseHold]
    exact h.pass (h.endHold _ hhold hs)
  · rw [release_refused replacement fun hold hhold e => hheld ⟨hold, hhold, e⟩]
    exact hs

theorem MarkerInvariant.actAttentionRelease (p : List Byte) {s : State} (hs : P s) :
    P (actAttentionRelease p s).2 := by
  unfold Machine.actAttentionRelease
  split
  · exact hs
  · exact h.release _ _ hs
  · split
    · exact hs
    · exact h.release _ _ hs

theorem MarkerInvariant.actSetRegimeEntry (p : List Byte) {s : State} (hs : P s) :
    P (actSetRegimeEntry p s).2 := by
  unfold Machine.actSetRegimeEntry
  split
  · exact hs
  · split
    · rw [done_snd]
      exact h.same (writeEntry_same _ _ _ s) hs
    · exact hs

theorem MarkerInvariant.actSetLineProfile (p : List Byte) {s : State} (hs : P s) :
    P (actSetLineProfile p s).2 := by
  have hset := h.same (setProfile_same (readLineProfile p) s) hs
  unfold Machine.actSetLineProfile
  split
  · exact hs
  · split
    · exact hs
    · rw [done_snd]
      unfold writeProfile
      split
      · exact hset
      · exact h.lineClear _ hset

theorem MarkerInvariant.actSetCarProfile (p : List Byte) {s : State} (hoff : OffWhereDisabled s)
    (hs : P s) : P (actSetCarProfile p s).2 := by
  rcases actSetCarProfile_cases p s with e | ⟨c, x, -, e⟩ <;> rw [e]
  · exact hs
  · exact h.carProfile c x hoff hs

theorem MarkerInvariant.actRouteOpen (p : List Byte) {s : State} (hs : P s) :
    P (actRouteOpen p s).2 := by
  refine onBank_keeps p hs fun bank => ?_
  split
  · exact hs
  · rename_i hfree
    split
    · exact hs
    · refine h.setBank ?_ hs
      simp [not_not.1 hfree]

theorem MarkerInvariant.actRoutePoints (p : List Byte) {s : State} (hs : P s) :
    P (actRoutePoints p s).2 := by
  refine onBank_keeps p hs fun bank => ?_
  dsimp only
  split
  · exact hs
  · split
    · exact hs
    · split
      · exact hs
      · split
        · exact hs
        · split
          · exact h.setBank Iff.rfl hs
          · exact hs

theorem MarkerInvariant.actRouteClose (p : List Byte) {s : State} (hs : P s) :
    P (actRouteClose p s).2 := by
  refine onBank_keeps p hs fun bank => ?_
  dsimp only
  split
  · exact hs
  · rename_i hloading
    split
    · exact hs
    · split
      · exact hs
      · refine h.setBank ?_ hs
        simp [not_not.1 hloading]

theorem MarkerInvariant.actRouteDiscard (p : List Byte) {s : State} (hs : P s) :
    P (actRouteDiscard p s).2 := by
  refine onBank_keeps p hs fun bank => ?_
  split
  · rename_i hstate
    exact h.setBank (by simp [hstate]) hs
  · rename_i hstate
    exact h.setBank (by simp [hstate]) hs
  · exact hs
  · exact hs
  · exact hs

theorem MarkerInvariant.act {name : RequestName} {act : List Byte → State → Reply × State}
    (hact : name.act = some act) (p : List Byte) {s : State} (hoff : OffWhereDisabled s) (hs : P s) :
    P (act p s).2 := by
  have hframe := act_frame hact p s
  cases name <;> cases hact
  case setLineProfile => exact h.actSetLineProfile p hs
  case setCarProfile => exact h.actSetCarProfile p hoff hs
  case setRegimeEntry => exact h.actSetRegimeEntry p hs
  case attentionRelease => exact h.actAttentionRelease p hs
  case clearMarkerLoss => exact h.same (setLoss_same false s) (t := setLoss false s) hs
  case routeOpen => exact h.actRouteOpen p hs
  case routePoints => exact h.actRoutePoints p hs
  case routeClose => exact h.actRouteClose p hs
  case routeDiscard => exact h.actRouteDiscard p hs
  all_goals exact h.same (.of_frame hframe (by decide) (by decide)) hs

theorem MarkerInvariant.event {s t : State} (hevent : BlockEvent s t) (hoff : OffWhereDisabled s)
    (hs : P s) : P t := by
  cases hevent with
  | deliver role p => exact h.deliver role p hs
  | odometryExpiry => exact h.odometryExpiry hs
  | channelExpiry x => exact h.same (.of_frame (channelExpiry_frame x s)) hs
  | commandExpiry =>
    exact h.same (.of_profiles (commandExpiry_frame s) (commandExpiry_profiles s)) hs
  | attentionExpiry => exact h.attentionExpiry hs
  | restart => exact h.restartBlocks hs
  | act hact p => exact h.act hact p hoff hs

theorem MarkerInvariant.step {s t : State} (hcars : CarsSound s) (hs : P s)
    (hstep : step s = .next t) : P t := by
  refine step_keeps_of_event (H := OffWhereDisabled) (fun {u v} hu hoff c => ?_)
    (fun hu => h.same (.of_traffic hu)) h.reset (fun hevent => h.event hevent)
    (fun c => (hcars c).1) hs hstep
  have hc : v.cars = u.cars := hu.frame .cars (by decide)
  have hd : v.demand = u.demand := hu.frame .demand (by decide)
  have hoffc := hoff c
  simp only [State.channel, State.enabled, State.carProfile, hc, hd] at hoffc ⊢
  exact hoffc

end Keeps

end Sys2Proof.Machine
end

section
/-! The marker queue in order (R74, R75): its cells rise, it holds at most 30 TRACK markers, and enabled cars
alone stand in pending sets, none of which is empty between two events. -/

set_option Elab.async false

namespace Sys2Proof.Machine

/-! ## The queue in order -/

/-- R74, R75: the queue in order. Between two events every pending set holds a car (`held`); while a
marker has just been queued, that is not yet so. -/
structure QueueFit (held : Prop) (s : State) : Prop where
  rise : CellsRise s.marker.queue
  tracks : s.trackCount ≤ 30
  enabled : ∀ m ∈ s.marker.queue, ∀ c ∈ m.pending, s.enabled c = true
  pending : held → ∀ m ∈ s.marker.queue, m.pending ≠ []

theorem queueSound_iff (s : State) : QueueSound s ↔ QueueFit True s := by
  constructor
  · rintro ⟨hrise, htracks, hmarkers⟩
    exact ⟨hrise, htracks, fun m hm => (hmarkers m hm).2, fun _ m hm => (hmarkers m hm).1⟩
  · intro h
    exact ⟨h.rise, h.tracks, fun m hm => ⟨h.pending trivial m hm, h.enabled m hm⟩⟩

/-- The TRACK markers of a queue (R71). -/
def trackMarkers (q : List Marker) : List Marker := q.filter (fun m => m.kind = .track)

theorem Thinned.tracks {p q : List Marker} (h : Thinned p q) :
    (trackMarkers q).length ≤ (trackMarkers p).length := by
  obtain ⟨f, hf, hq⟩ := h
  have hkind : ∀ m, (f m).kind = m.kind := fun m => (hf m).2.1
  have hmap : trackMarkers (p.map f) = (trackMarkers p).map f := by
    simp only [trackMarkers, List.filter_map, Function.comp_def, hkind]
  calc (trackMarkers q).length ≤ (trackMarkers (p.map f)).length := (hq.filter _).length_le
    _ = (trackMarkers p).length := by rw [hmap, List.length_map]

section Fit

variable {held : Prop} {s t : State}

theorem QueueFit.weaken {held' : Prop} (h : QueueFit held s) (k : held' → held) : QueueFit held' s :=
  { h with pending := fun hh => h.pending (k hh) }

/-- What thins the queue keeps it in order, where the cars that are left in it stay enabled. -/
theorem QueueFit.shrink {held' : Prop} (h : QueueFit held s)
    (hthin : Thinned s.marker.queue t.marker.queue)
    (henabled : ∀ m ∈ t.marker.queue, ∀ c ∈ m.pending, s.enabled c = true → t.enabled c = true)
    (hpending : held' → ∀ m ∈ t.marker.queue, m.pending ≠ []) : QueueFit held' t where
  rise := hthin.rise h.rise
  tracks := hthin.tracks.trans h.tracks
  enabled := fun m hm c hc => by
    obtain ⟨x, hx, -, hsub⟩ := hthin.origin hm
    exact henabled m hm c hc (h.enabled x hx c (hsub hc))
  pending := hpending

theorem QueueFit.thin {held' : Prop} (h : QueueFit held s)
    (hthin : Thinned s.marker.queue t.marker.queue) (henabled : ∀ c, t.enabled c = s.enabled c)
    (hpending : held' → ∀ m ∈ t.marker.queue, m.pending ≠ []) : QueueFit held' t :=
  h.shrink hthin (fun _ _ c _ hc => (henabled c).trans hc) hpending

theorem QueueFit.same (h : QueueFit held s) (k : SameMarkers s t) : QueueFit held t :=
  h.thin (k.queue ▸ .refl _) k.enabled (k.queue ▸ h.pending)

/-- What neither reaches the marker unit nor a profile keeps the queue in order. -/
theorem QueueFit.of_frame {fs : List Field} (h : QueueFit held s) (k : SameBut fs s t)
    (hf : Field.marker ∉ fs ∧ Field.demand ∉ fs := by decide) : QueueFit held t := by
  have hmarker : t.marker = s.marker := k .marker hf.1
  have hdemand : t.demand = s.demand := k .demand hf.2
  refine h.thin (hmarker ▸ .refl _) (fun c => ?_) (hmarker ▸ h.pending)
  simp only [State.enabled, State.carProfile, hdemand]

theorem enabled_of_frame {fs : List Field} (k : SameBut fs s t)
    (hf : Field.demand ∉ fs := by decide) (c : Car) : t.enabled c = s.enabled c := by
  have hdemand : t.demand = s.demand := k .demand hf
  simp only [State.enabled, State.carProfile, hdemand]

/-- A queue without markers is in order. -/
theorem QueueFit.of_nil (h : s.marker.queue = []) : QueueFit held s where
  rise := h ▸ List.Pairwise.nil
  tracks := by simp [State.trackCount, h]
  enabled := by simp [h]
  pending := by simp [h]

/-! ## The operations of the queue -/

theorem dropEmptied_held (w : Bool) {m : Marker} (hm : m ∈ (dropEmptied w s).marker.queue) :
    m.pending ≠ [] := by
  rw [dropEmptied_marker] at hm
  simpa using List.of_mem_filter hm

theorem dropEmptied_queueFit (w : Bool) (h : QueueFit held s) : QueueFit True (dropEmptied w s) := by
  refine h.thin ?_ (enabled_of_frame (dropEmptied_frame w s)) fun _ m => dropEmptied_held w
  rw [dropEmptied_marker]
  exact .of_sublist List.filter_sublist

theorem applyEntry_held (w : Bool) (c : Car) (n : Nat) (e : RegimeEntry) {m : Marker}
    (hm : m ∈ (applyEntry w c n e s).marker.queue) : m.pending ≠ [] := by
  rw [applyEntry_marker] at hm
  simpa using List.of_mem_filter hm

theorem applyEntry_queueFit (w : Bool) (c : Car) (n : Nat) (e : RegimeEntry) (h : QueueFit held s) :
    QueueFit True (applyEntry w c n e s) :=
  h.thin (applyEntry_thinned w c n e s) (applyEntry_enabled w c · n e s)
    fun _ _ => applyEntry_held w c n e

theorem carPass_queueFit (w : Bool) (c : Car) (q : List Marker) (h : QueueFit held s) :
    QueueFit held (carPass w c q s) := by
  induction q generalizing s with
  | nil => exact h
  | cons m q ih =>
    unfold carPass
    split
    · split
      · dsimp only
        split
        · exact h.thin (.refl _) (fun _ => rfl) h.pending
        · exact ih ((applyEntry_queueFit _ _ _ _ h).weaken fun _ => trivial)
      · exact h
    · exact ih h

theorem pass_queueFit (w : Bool) (h : QueueFit held s) : QueueFit held (pass w s) := by
  have hcars : QueueFit held (forCars (passCar w) s) := by
    refine forCars_keeps (fun c t ht => ?_) s h
    unfold passCar
    split
    · exact carPass_queueFit _ _ _ ht
    · exact ht
  refine h.thin (pass_thinned w s) (enabled_of_frame (pass_frame w s)) fun hheld => ?_
  rw [pass, (arbiter_keeps _).1]
  exact hcars.pending hheld

/-- R72, R74: a marker that joins the tail at or above every cell. -/
theorem QueueFit.join {m : Marker} (h : QueueFit held s) (hqueue : t.marker.queue = s.marker.queue ++ [m])
    (henabled : ∀ c, t.enabled c = s.enabled c) (hcell : ∀ x ∈ s.marker.queue, x.cell ≤ m.cell)
    (htrack : m.kind = .track → s.trackCount < 30) (hpending : m.pending = s.enabledCars) :
    QueueFit False t where
  rise := by
    rw [hqueue]
    exact List.pairwise_append.2 ⟨h.rise, List.pairwise_singleton _ _, by simpa using hcell⟩
  tracks := by
    have htracks := h.tracks
    simp only [State.trackCount, hqueue, List.filter_append, List.length_append] at htracks htrack ⊢
    by_cases hkind : m.kind = .track
    · have hroom := htrack hkind
      simp [hkind]
      omega
    · simpa [hkind] using htracks
  enabled := fun x hx c hc => by
    rw [henabled]
    rw [hqueue] at hx
    rcases List.mem_append.1 hx with hx | hx
    · exact h.enabled x hx c hc
    · obtain rfl := List.mem_singleton.1 hx
      rw [hpending] at hc
      exact List.of_mem_filter hc
  pending := False.elim

/-- R74: the cells of a queue in order lie at or below its tail's. -/
theorem cell_le_tail {q : List Marker} {tail : Marker} (h : CellsRise q)
    (htail : q.getLast? = some tail) {m : Marker} (hm : m ∈ q) : m.cell ≤ tail.cell := by
  obtain ⟨init, rfl⟩ := List.getLast?_eq_some_iff.1 htail
  rcases List.mem_append.1 hm with hm | hm
  · exact (List.pairwise_append.1 h).2.2 m hm tail (by simp)
  · rw [List.mem_singleton.1 hm]

/-- R74: the cell of a SECTION_END marker, raised to the tail's where a marker stands above it. -/
theorem endMarker_cell (bank : Bank) (h : CellsRise s.marker.queue) :
    ∀ x ∈ s.marker.queue, x.cell ≤ (endMarker bank s).cell := by
  intro x hx
  simp only [endMarker]
  split
  · rename_i tail htail
    split
    · exact cell_le_tail h htail hx
    · rename_i habove
      by_contra hlt
      exact habove ⟨x, hx, Nat.not_le.mp hlt⟩
  · rename_i hnil
    rw [List.getLast?_eq_none_iff] at hnil
    rw [hnil] at hx
    cases hx

theorem draining_queueFit (bank : Bank) (h : QueueFit held s) : QueueFit False (s.draining bank) :=
  h.join (m := endMarker bank s) rfl (fun _ => rfl) (endMarker_cell bank h.rise) nofun rfl

theorem drainBank_queueFit (bank : Bank) (h : QueueFit held s) :
    QueueFit True (drainBank bank s) := by
  rw [drainBank_eq]
  exact (pass_queueFit true (dropEmptied_queueFit true (draining_queueFit bank h))).of_frame
    (offerReport_frame _ _)

theorem endSection_queueFit (bank : Bank) (h : QueueFit held s) :
    QueueFit True (s.endSection bank) :=
  (drainBank_queueFit bank h).of_frame (chainOrUnknown_frame _ _)

theorem endChain_queueFit (n : Nat) (h : QueueFit held s) : QueueFit held (endChain n s) := by
  induction n generalizing s with
  | zero => exact h
  | succ n ih =>
    cases hdue : s.endDue with
    | none => rwa [endChain_none _ hdue]
    | some bank =>
      rw [endChain_some n hdue]
      exact ih ((endSection_queueFit bank h).weaken fun _ => trivial)

theorem takeNotices_notice (s : State) : SameBut noticeFields s (takeNotices s) :=
  ((setBook_frame _ _).mono (by decide)).trans
    (SameBut.foldl (fun t bank => (freePassed_frame bank t).mono (by decide)) _ _)

theorem endTest_queueFit (h : QueueFit held s) : QueueFit held (endTest s) :=
  (endChain_queueFit 2 h).of_frame (takeNotices_notice _)

theorem offerAnchor_queueFit (cls : MarkerClass) (param : Byte) (cell : Nat) (h : QueueFit held s) :
    QueueFit held (offerAnchor cls param cell s) := by
  have hstart : ∀ bank n, QueueFit held (startBank bank n .anchor (some (cls, param)) s) :=
    fun bank n => h.of_frame (startBank_frame _ _ _ _ _)
  unfold offerAnchor
  split
  · exact h
  · split
    · exact endTest_queueFit (hstart .a _)
    · split
      · exact endTest_queueFit (hstart .b _)
      · exact h

/-- R72: a TRACK marker at or above the tail's cell, where fewer than 30 are queued. -/
theorem enqueue_queueFit (cls : MarkerClass) (param : Byte) {cell : Nat} (h : QueueFit held s)
    (hcell : ∀ tail ∈ s.tailCell, tail ≤ cell) (hplace : s.trackCount < 30) :
    QueueFit False (enqueue .track cls param cell none s) := by
  refine h.join rfl (fun _ => rfl) (fun x hx => ?_) (fun _ => hplace) rfl
  obtain ⟨tail, htail⟩ : ∃ tail, s.marker.queue.getLast? = some tail :=
    Option.ne_none_iff_exists'.1 fun hnil => by
      rw [List.getLast?_eq_none_iff] at hnil
      rw [hnil] at hx
      cases hx
  refine (cell_le_tail h.rise htail hx).trans (hcell tail.cell ?_)
  rw [State.tailCell, htail]
  rfl

theorem queueTrack_queueFit (cls : MarkerClass) (param : Byte) {cell : Nat} (h : QueueFit held s)
    (hcell : ∀ tail ∈ s.tailCell, tail ≤ cell) (hplace : s.trackCount < 30) :
    QueueFit True (queueTrack cls param cell s) :=
  pass_queueFit false (dropEmptied_queueFit false
    (offerAnchor_queueFit cls param cell (enqueue_queueFit cls param h hcell hplace)))

theorem endHold_queueFit (hold : Attention) (e : RegimeEntry) (h : QueueFit held s) :
    QueueFit True (endHold hold e s) := by
  have happlied := applyEntry_queueFit false hold.car hold.serial e h
  rw [endHold_eq]
  exact happlied.thin (.refl _) (fun _ => rfl) happlied.pending

theorem lineClear_queue (own : Option Report) (s : State) : (lineClear own s).marker.queue = [] := by
  rw [(lineClear_blocks own s).1]
  rfl

/-! ## A car disabled -/

/-- The marker with a car removed from its pending set (R90). -/
def Marker.leave (c : Car) (m : Marker) : Marker := { m with pending := m.pending.filter (· ≠ c) }

/-- R90: the queue with a car removed from every pending set. -/
def State.left (c : Car) (s : State) : State := setQueue (s.marker.queue.map (Marker.leave c)) s

theorem Marker.leave_keeps (c : Car) (m : Marker) :
    (m.leave c).cell = m.cell ∧ (m.leave c).kind = m.kind ∧ (m.leave c).pending ⊆ m.pending :=
  ⟨rfl, rfl, List.filter_subset_self _⟩

theorem withdraw_marker (s : State) :
    (withdraw s).marker = { s.marker with attention := none } := by
  unfold withdraw
  split
  · rename_i hnone
    rw [← hnone]
  · exact offerReport_marker _ _

theorem withdraw_frame_own (s : State) : SameBut [.ports, .counters, .marker] s (withdraw s) := by
  unfold withdraw
  split
  · exact .refl _ _
  · exact ((setMarker_frame _ _).mono (by decide)).trans ((offerReport_frame _ _).mono (by decide))

/-- The marker unit after a disabling, before its pass (R90): the car in no pending set, its hold
withdrawn, and it does not wait. -/
def MarkerUnit.disabled (c : Car) (u : MarkerUnit) : MarkerUnit :=
  { u with
    queue := (u.queue.map (Marker.leave c)).filter (fun m => !m.pending.isEmpty),
    attention := if u.attention.any (fun hold => hold.car = c) then none else u.attention,
    cars := u.cars.set c u.cars[c].released }

/-- R90: the queue after a disabling is in order, where no other car's profile has changed. -/
theorem QueueFit.disabled {c : Car} (h : QueueFit held s) (hmarker : t.marker = s.marker.disabled c)
    (hothers : ∀ d, d ≠ c → t.enabled d = s.enabled d) : QueueFit True t := by
  refine h.shrink ?_ (fun m hm d hd hon => ?_) fun _ m hm => ?_
  · rw [hmarker]
    exact ⟨Marker.leave c, Marker.leave_keeps c, List.filter_sublist⟩
  · rw [hmarker] at hm
    obtain ⟨y, -, rfl⟩ := List.mem_map.1 (List.mem_of_mem_filter hm)
    have hdc : d ≠ c := by simpa using List.of_mem_filter hd
    exact (hothers d hdc).trans hon
  · rw [hmarker] at hm
    simpa using List.of_mem_filter hm

theorem stopWaiting_marker (c : Car) (s : State) :
    (stopWaiting c s).marker =
      { s.marker with cars := s.marker.cars.set c s.marker.cars[c].released } := rfl

/-- R90: a disabling is what it makes of the marker unit and of the banks that this frees, and a pass. -/
theorem markerDisable_eq (c : Car) (s : State) :
    ∃ t, markerDisable c s = pass false t ∧ t.marker = s.marker.disabled c ∧
      SameBut [.ports, .counters, .marker] (dropEmptied false (s.left c)) t := by
  have hdrop := dropEmptied_marker false (s.left c)
  generalize hs2 : dropEmptied false (s.left c) = s2 at hdrop
  let s3 := if s2.marker.attention.any (fun hold => hold.car = c) then withdraw s2 else s2
  have hs3 : s3.marker =
      { s2.marker with
        attention := if s2.marker.attention.any (fun hold => hold.car = c) then none
          else s2.marker.attention } := by
    simp only [s3]
    split
    · exact withdraw_marker s2
    · rfl
  refine ⟨stopWaiting c s3, ?_, ?_, ?_⟩
  · simp only [s3, ← hs2]
    rfl
  · rw [stopWaiting_marker, hs3, hdrop]
    rfl
  · exact (SameBut.ite (withdraw_frame_own s2) (.refl _ s2)).trans
      ((stopWaiting_frame c s3).mono (by decide))

theorem enableCar_marker (c : Car) (s : State) :
    (enableCar c s).marker = { s.marker with cars := s.marker.cars.set c .reset } := by
  have hstill : (enterStill c .parked s).marker = s.marker :=
    enterStill_frame c .parked s .marker (by decide)
  have hregime : ∀ u : State, u.marker = s.marker →
      (setRegime c .reset u).marker = { s.marker with cars := s.marker.cars.set c .reset } :=
    fun u hu => by rw [← hu]; rfl
  exact hregime _ hstill

theorem writeCarProfile_enabled (c : Car) (x : CarProfile) (s : State) :
    (writeCarProfile c x s).enabled c = x.enabled ∧
      ∀ d, d ≠ c → (writeCarProfile c x s).enabled d = s.enabled d := by
  refine ⟨?_, fun d hd => ?_⟩
  · exact congrArg CarProfile.enabled (vector_set_same _ _ _)
  · exact congrArg CarProfile.enabled (vector_set_other _ _ hd)

/-- R139, R140: a written profile, with what it brings about at the marker unit. -/
theorem applyCarProfile_queueFit (c : Car) (x : CarProfile) (hoff : OffWhereDisabled s)
    (h : QueueFit True s) : QueueFit True (applyCarProfile c x s) := by
  obtain ⟨hown, hothers⟩ := writeCarProfile_enabled c x s
  have hwritten : s.enabled c = false ∨ x.enabled = true → QueueFit True (writeCarProfile c x s) :=
    fun hc => h.shrink (.refl _) (fun m hm d _ hd => by
      by_cases hdc : d = c
      · subst hdc
        rw [hown]
        exact hc.resolve_left (by simp [hd])
      · rw [hothers d hdc, hd]) h.pending
  unfold applyCarProfile
  dsimp only
  split
  · rename_i hstate
    have hset := hwritten (.inl ((hoff c).1 hstate))
    split
    · refine hset.thin ?_ (enabled_of_frame (enableCar_frame c _)) ?_ <;> rw [enableCar_marker]
      · exact .refl _
      · exact hset.pending
    · exact hset
  · split
    · rename_i hx
      exact hwritten (.inr hx)
    · have hstill : (enterStill c .off (writeCarProfile c x s)).marker = s.marker :=
        enterStill_frame c .off _ .marker (by decide)
      obtain ⟨t, ht, hmarker, hframe⟩ := markerDisable_eq c (enterStill c .off (writeCarProfile c x s))
      rw [hstill] at hmarker
      rw [disableCar, ht]
      refine pass_queueFit false (h.disabled hmarker fun d hdc => ?_)
      have hdrop := enabled_of_frame (dropEmptied_frame false
        ((enterStill c .off (writeCarProfile c x s)).left c)) (by decide) d
      have hstilled := enabled_of_frame (enterStill_frame c .off (writeCarProfile c x s))
        (by decide) d
      rw [enabled_of_frame hframe (by decide) d, hdrop]
      exact hstilled.trans (hothers d hdc)

end Fit

/-! ## The settled obligation -/

theorem queueFit_invariant : MarkerInvariant (QueueFit True) where
  same := fun k h => h.same k
  reset := .of_nil rfl
  pass := pass_queueFit false
  endTest := endTest_queueFit
  lineClear := fun own s _ => .of_nil (lineClear_queue own s)
  restart := fun own s _ => .of_nil (lineClear_queue own s)
  queueTrack := fun cls param _ _ hcell hplace h => queueTrack_queueFit cls param h hcell hplace
  endHold := fun e hold _ _ h => endHold_queueFit hold e h
  carProfile := fun c x _ hoff h => applyCarProfile_queueFit c x hoff h
  setBank := fun _ h => h.of_frame (setBank_frame _ _ _)

/-- Settles O54: markers join at the tail at or above every cell with the enabled cars pending, leave when
no car is left, and a car that is disabled leaves every pending set. -/
theorem markerQueueStaysSound : Obligations.MarkerQueueStaysSound := by
  intro s t hcars hqueue hstep
  rw [queueSound_iff] at hqueue ⊢
  exact queueFit_invariant.step hcars hqueue hstep

end Sys2Proof.Machine
end

section
/-! The serials of the marker queue (R73, R74, R83, R84): consecutive, nested pending sets, and each waiting
car on the oldest marker that holds it; kept where cars leave pending sets, markers leave the queue and a
marker joins its tail. -/

set_option Elab.async false

namespace Sys2Proof.Machine

/-! ## Consecutive serials -/

theorem nextSerial_range (n : Nat) : 1 ≤ nextSerial n ∧ nextSerial n ≤ 65535 := by
  unfold nextSerial
  split <;> omega

/-- R73: the serials after `a` in turn, counted round from 65535 to 1. -/
theorem serial_of_chain {a : Nat} {l : List Nat} (ha : 1 ≤ a ∧ a ≤ 65535)
    (h : (a :: l).IsChain (fun x y => y = nextSerial x)) {b : Nat} (hb : b ∈ l) :
    ∃ i, 1 ≤ i ∧ i ≤ l.length ∧ b = (a - 1 + i) % 65535 + 1 := by
  induction l generalizing a with
  | nil => cases hb
  | cons x l ih =>
    obtain ⟨rfl, hl⟩ := List.isChain_cons_cons.1 h
    have hnext : nextSerial a = a % 65535 + 1 := by
      unfold nextSerial
      split <;> omega
    rcases List.mem_cons.1 hb with rfl | hb
    · exact ⟨1, Nat.le_refl 1, by simp, by omega⟩
    · obtain ⟨i, hi, hlen, hbi⟩ := ih (nextSerial_range a) hl hb
      exact ⟨i + 1, by omega, by simpa using hlen, by omega⟩

/-- R73: fewer than 65535 consecutive serials are all different. -/
theorem nodup_of_chain {l : List Nat} (hrange : ∀ n ∈ l, 1 ≤ n ∧ n ≤ 65535)
    (h : l.IsChain (fun x y => y = nextSerial x)) (hlen : l.length ≤ 65535) : l.Nodup := by
  induction l with
  | nil => exact List.nodup_nil
  | cons a l ih =>
    have ha := hrange a (by simp)
    rw [List.length_cons] at hlen
    refine List.nodup_cons.2 ⟨fun hmem => ?_, ih (fun n hn => hrange n (by simp [hn])) h.tail (by omega)⟩
    obtain ⟨i, hi, hil, hai⟩ := serial_of_chain ha h hmem
    omega

/-! ## Lists thinned -/

/-- Where a condition, once it holds, holds of all that follows, what meets it is a suffix. -/
theorem filter_suffix {α : Type} {p : α → Bool} {l : List α}
    (h : l.Pairwise (fun x y => p x = true → p y = true)) : l.filter p <:+ l := by
  induction l with
  | nil => exact List.suffix_refl []
  | cons x l ih =>
    obtain ⟨hx, hl⟩ := List.pairwise_cons.1 h
    by_cases hp : p x = true
    · rw [List.filter_cons_of_pos hp, List.filter_eq_self.2 fun y hy => hx y hy hp]
    · rw [List.filter_cons_of_neg hp]
      exact (ih hl).trans (List.suffix_cons x l)

/-- Each car of a marker's pending set stands in those of all later ones (R74). -/
def Nested (q : List Marker) : Prop := q.Pairwise (fun x y => ∀ c ∈ x.pending, c ∈ y.pending)

/-- The markers of a queue that some car holds (R75). -/
def heldMarkers (q : List Marker) : List Marker := q.filter (fun m => !m.pending.isEmpty)

/-- R75: the emptied markers of a queue stand at its head. -/
theorem Nested.held_suffix {q : List Marker} (h : Nested q) : heldMarkers q <:+ q := by
  refine filter_suffix (h.imp fun {x y} hxy hx => ?_)
  rw [Bool.not_eq_true', List.isEmpty_eq_false_iff] at hx ⊢
  obtain ⟨c, hc⟩ := List.exists_mem_of_ne_nil _ hx
  exact List.ne_nil_of_mem (hxy c hc)

/-- The oldest marker of a queue that holds a car. -/
def oldestIn (q : List Marker) (c : Car) : Option Marker := q.find? (fun m => m.pending.contains c)

/-- A car that no marker gains or loses keeps its oldest marker. -/
theorem oldestIn_held {q : List Marker} {f : Marker → Marker} {c : Car}
    (hserial : ∀ m, (f m).serial = m.serial) (hc : ∀ m, c ∈ (f m).pending ↔ c ∈ m.pending) :
    (oldestIn (heldMarkers (q.map f)) c).map (·.serial) = (oldestIn q c).map (·.serial) := by
  induction q with
  | nil => rfl
  | cons m q ih =>
    unfold oldestIn heldMarkers at *
    rw [List.map_cons]
    by_cases hm : c ∈ m.pending
    · have hfm : c ∈ (f m).pending := (hc m).2 hm
      have hne : (f m).pending ≠ [] := List.ne_nil_of_mem hfm
      rw [List.filter_cons_of_pos (by simpa using hne), List.find?_cons_of_pos (by simpa using hfm),
        List.find?_cons_of_pos (by simpa using hm)]
      exact congrArg some (hserial m)
    · have hfm : c ∉ (f m).pending := fun h => hm ((hc m).1 h)
      rw [List.find?_cons_of_neg (by simpa using hm), ← ih, List.filter_cons]
      split
      · rw [List.find?_cons_of_neg (by simpa using hfm)]
      · rfl

/-! ## The marker unit -/

/-- R73, R74, R83, R84: the serials, the pending sets and the waiting cars of the marker unit. -/
structure MarkerUnit.Serial (u : MarkerUnit) : Prop where
  counter : 1 ≤ u.serialCounter ∧ u.serialCounter ≤ 65535
  chain : (u.queue.map (·.serial) ++ [u.serialCounter]).IsChain (fun x y => y = nextSerial x)
  range : ∀ m ∈ u.queue, 1 ≤ m.serial ∧ m.serial ≤ 65535
  nested : Nested u.queue
  kinds : ∀ m ∈ u.queue, m.kind = .sectionEnd ↔ m.bank.isSome = true
  waits : ∀ c : Car, ∀ n ∈ u.cars[c].waiting, (oldestIn u.queue c).map (·.serial) = some n
  holds : ∀ hold ∈ u.attention, u.cars[hold.car].waiting = some hold.serial

section Unit

variable {u v : MarkerUnit}

theorem MarkerUnit.Serial.congr (h : u.Serial) (hqueue : v.queue = u.queue)
    (hcounter : v.serialCounter = u.serialCounter) (hcars : v.cars = u.cars)
    (hattention : v.attention = u.attention) : v.Serial := by
  obtain ⟨counter, chain, range, nested, kinds, waits, holds⟩ := h
  rw [← hcounter] at counter chain
  rw [← hqueue] at chain range nested kinds waits
  rw [← hcars] at waits holds
  rw [← hattention] at holds
  exact ⟨counter, chain, range, nested, kinds, waits, holds⟩

theorem MarkerUnit.Serial.nodup (h : u.Serial) (hlen : u.queue.length ≤ 32) :
    (u.queue.map (·.serial)).Nodup := by
  refine nodup_of_chain (fun n hn => ?_) h.chain.left_of_append (by rw [List.length_map]; omega)
  obtain ⟨m, hm, rfl⟩ := List.mem_map.1 hn
  exact h.range m hm

/-- R75, R82, R90: cars leave pending sets and emptied markers leave the queue; the cars that wait are
touched in no set. -/
theorem MarkerUnit.Serial.thin (h : u.Serial) {f : Marker → Marker}
    (hserial : ∀ m, (f m).serial = m.serial ∧ (f m).kind = m.kind ∧ (f m).bank = m.bank)
    (hnested : Nested (u.queue.map f)) (hqueue : v.queue = heldMarkers (u.queue.map f))
    (hcounter : v.serialCounter = u.serialCounter)
    (hwaits : ∀ c : Car, ∀ n ∈ v.cars[c].waiting,
      n ∈ u.cars[c].waiting ∧ ∀ m, c ∈ (f m).pending ↔ c ∈ m.pending)
    (hholds : ∀ hold ∈ v.attention, v.cars[hold.car].waiting = some hold.serial) : v.Serial := by
  have hmem : ∀ m ∈ v.queue, ∃ x ∈ u.queue, f x = m := fun m hm => by
    rw [hqueue] at hm
    exact List.mem_map.1 (List.mem_of_mem_filter hm)
  have hserials : (u.queue.map f).map (·.serial) = u.queue.map (·.serial) := by
    rw [List.map_map]
    exact List.map_congr_left fun m _ => (hserial m).1
  exact
    { counter := hcounter ▸ h.counter
      chain := by
        obtain ⟨before, hbefore⟩ := hnested.held_suffix
        refine h.chain.suffix ⟨before.map (·.serial), ?_⟩
        rw [hqueue, hcounter, ← List.append_assoc, ← List.map_append, hbefore, hserials]
      range := fun m hm => by
        obtain ⟨x, hx, rfl⟩ := hmem m hm
        rw [(hserial x).1]
        exact h.range x hx
      nested := by
        rw [hqueue]
        exact List.Pairwise.sublist List.filter_sublist hnested
      kinds := fun m hm => by
        obtain ⟨x, hx, rfl⟩ := hmem m hm
        rw [(hserial x).2.1, (hserial x).2.2]
        exact h.kinds x hx
      waits := fun c n hn => by
        obtain ⟨hwas, hc⟩ := hwaits c n hn
        rw [hqueue, oldestIn_held (fun m => (hserial m).1) hc]
        exact h.waits c n hwas
      holds := hholds }

/-- R75: the emptied markers leave the queue. -/
theorem MarkerUnit.Serial.drop (h : u.Serial) :
    ({ u with queue := heldMarkers u.queue } : MarkerUnit).Serial :=
  h.thin (f := id) (fun _ => ⟨rfl, rfl, rfl⟩) (by simpa using h.nested) (by simp) rfl
    (fun _ _ hn => ⟨hn, fun _ => Iff.rfl⟩) h.holds

/-- R72, R74: a marker takes the next serial and joins the tail, holding every car that the queue
holds. -/
theorem MarkerUnit.Serial.join (h : u.Serial) {m : Marker} (hm : m.serial = u.serialCounter)
    (hkind : m.kind = .sectionEnd ↔ m.bank.isSome = true)
    (hpending : ∀ x ∈ u.queue, ∀ c ∈ x.pending, c ∈ m.pending) :
    ({ u with queue := u.queue ++ [m], serialCounter := nextSerial u.serialCounter } :
      MarkerUnit).Serial where
  counter := nextSerial_range _
  chain := by
    dsimp only
    rw [List.map_append, List.map_singleton, hm]
    refine List.isChain_append.2 ⟨h.chain, List.isChain_singleton _, fun x hx y hy => ?_⟩
    rw [List.getLast?_concat, Option.mem_some_iff] at hx
    rw [List.head?_singleton, Option.mem_some_iff] at hy
    rw [← hx, ← hy]
  range := fun x hx => by
    rcases List.mem_append.1 hx with hx | hx
    · exact h.range x hx
    · rw [List.mem_singleton.1 hx, hm]
      exact h.counter
  nested := List.pairwise_append.2 ⟨h.nested, List.pairwise_singleton _ _, by simpa using hpending⟩
  kinds := fun x hx => by
    rcases List.mem_append.1 hx with hx | hx
    · exact h.kinds x hx
    · rw [List.mem_singleton.1 hx]
      exact hkind
  waits := fun c n hn => by
    have hwas := h.waits c n hn
    unfold oldestIn at hwas ⊢
    dsimp only
    rw [List.find?_append]
    obtain ⟨x, hx, -⟩ := Option.map_eq_some_iff.1 hwas
    rwa [hx] at hwas ⊢
  holds := h.holds

/-- R83: a car that does not wait begins to wait on the oldest marker that holds it. -/
theorem MarkerUnit.Serial.wait (h : u.Serial) {c : Car} {m : Marker} {x : CarRegime}
    (hm : oldestIn u.queue c = some m) (hwaiting : u.cars[c].waiting = none)
    (hx : x.waiting = some m.serial) : ({ u with cars := u.cars.set c x } : MarkerUnit).Serial :=
  { h with
    waits := fun d n hn => by
      by_cases hd : d = c
      · subst hd
        dsimp only at hn ⊢
        rw [vector_set_same, hx, Option.mem_some_iff] at hn
        rw [hm, ← hn]
        rfl
      · dsimp only at hn
        rw [vector_set_other _ _ hd] at hn
        exact h.waits d n hn
    holds := fun hold hhold => by
      have hold' := h.holds hold hhold
      have hd : hold.car ≠ c := fun e => by
        subst e
        rw [hwaiting] at hold'
        cases hold'
      dsimp only
      rwa [vector_set_other _ _ hd] }

/-- R140: a car that no marker holds takes a new regime record. -/
theorem MarkerUnit.Serial.renew (h : u.Serial) {c : Car} {x : CarRegime}
    (hc : ∀ m ∈ u.queue, c ∉ m.pending) (hx : x.waiting = none) :
    ({ u with cars := u.cars.set c x } : MarkerUnit).Serial :=
  { h with
    waits := fun d n hn => by
      by_cases hd : d = c
      · subst hd
        dsimp only at hn
        rw [vector_set_same, hx] at hn
        cases hn
      · dsimp only at hn
        rw [vector_set_other _ _ hd] at hn
        exact h.waits d n hn
    holds := fun hold hhold => by
      have hold' := h.holds hold hhold
      have hd : hold.car ≠ c := fun e => by
        subst e
        obtain ⟨m, hm, -⟩ := Option.map_eq_some_iff.1 (h.waits _ _ hold')
        exact hc m (List.mem_of_find?_eq_some hm) (by simpa using List.find?_some hm)
      dsimp only
      rwa [vector_set_other _ _ hd] }

/-- R84: the record filled for a car that waits. -/
theorem MarkerUnit.Serial.fill (h : u.Serial) {hold : Attention}
    (hwaits : u.cars[hold.car].waiting = some hold.serial) :
    ({ u with attention := some hold } : MarkerUnit).Serial :=
  { h with
    holds := fun x hx => by
      obtain rfl := Option.mem_some_iff.1 hx
      exact hwaits }

/-- R82, R86, R90: one car, which then does not wait, leaves pending sets: its own place in them aside,
they stay as they were. -/
theorem MarkerUnit.Serial.leave (h : u.Serial) {c : Car} {f : Marker → Marker} {x : CarRegime}
    (hserial : ∀ m, (f m).serial = m.serial ∧ (f m).kind = m.kind ∧ (f m).bank = m.bank)
    (hothers : ∀ m d, d ≠ c → (d ∈ (f m).pending ↔ d ∈ m.pending))
    (hown : u.queue.Pairwise (fun y z => c ∈ (f y).pending → c ∈ (f z).pending))
    (hx : x.waiting = none) (hqueue : v.queue = heldMarkers (u.queue.map f))
    (hcounter : v.serialCounter = u.serialCounter) (hcars : v.cars = u.cars.set c x)
    (hholds : ∀ hold ∈ v.attention, hold ∈ u.attention ∧ hold.car ≠ c) : v.Serial := by
  refine h.thin hserial ?_ hqueue hcounter (fun d n hn => ?_) fun hold hhold => ?_
  · refine List.pairwise_map.2 ((h.nested.and hown).imp fun {y z} hyz d hd => ?_)
    obtain ⟨hnested, hc⟩ := hyz
    by_cases hdc : d = c
    · subst hdc
      exact hc hd
    · exact (hothers z d hdc).2 (hnested d ((hothers y d hdc).1 hd))
  · rw [hcars] at hn
    by_cases hdc : d = c
    · subst hdc
      rw [vector_set_same, hx] at hn
      cases hn
    · rw [vector_set_other _ _ hdc] at hn
      exact ⟨hn, fun m => hothers m d hdc⟩
  · obtain ⟨hwas, hdc⟩ := hholds hold hhold
    rw [hcars, vector_set_other _ _ hdc]
    exact h.holds hold hwas

theorem Marker.without_fields (c : Car) (n : Nat) (m : Marker) :
    (m.without c n).serial = m.serial ∧ (m.without c n).kind = m.kind ∧
      (m.without c n).bank = m.bank := by
  unfold Marker.without
  split <;> exact ⟨rfl, rfl, rfl⟩

theorem Marker.without_others {c d : Car} (n : Nat) (m : Marker) (hd : d ≠ c) :
    d ∈ (m.without c n).pending ↔ d ∈ m.pending := by
  unfold Marker.without
  split
  · simp [hd]
  · exact Iff.rfl

/-- R82: a car that leaves its oldest marker stays in every later one. -/
theorem without_pairwise {q : List Marker} {c : Car} {m : Marker} (hnested : Nested q)
    (hserials : (q.map (·.serial)).Nodup) (hm : oldestIn q c = some m) :
    q.Pairwise (fun y z => c ∈ (y.without c m.serial).pending → c ∈ (z.without c m.serial).pending) := by
  obtain ⟨-, before, after, rfl, hbefore⟩ := List.find?_eq_some_iff_append.1 hm
  have hleft : c ∉ (m.without c m.serial).pending := Marker.without_same rfl
  have hold : ∀ y ∈ before, c ∉ (y.without c m.serial).pending := fun y hy hc => by
    have hy' := hbefore y hy
    rw [Bool.not_eq_true', List.contains_eq_mem, decide_eq_false_iff_not] at hy'
    exact hy' ((Marker.without_keeps c m.serial y).2.2 hc)
  rw [List.map_append, List.map_cons] at hserials
  have hafter : ∀ z ∈ after, z.serial ≠ m.serial := fun z hz e =>
    (List.nodup_cons.1 hserials.of_append_right).1 (List.mem_map.2 ⟨z, hz, e⟩)
  have hrest : Nested after := (List.pairwise_cons.1 (List.pairwise_append.1 hnested).2.1).2
  refine List.pairwise_append.2 ⟨?_, List.pairwise_cons.2 ⟨fun z _ hc => absurd hc hleft, ?_⟩,
    fun y hy z _ hc => absurd hc (hold y hy)⟩
  · exact List.Pairwise.imp_of_mem (fun hy _ _ hc => absurd hc (hold _ hy))
      (List.pairwise_append.1 hnested).1
  · refine List.Pairwise.imp_of_mem (fun {y z} hy hz hyz hc => ?_) hrest
    rw [Marker.without_other (hafter y hy)] at hc
    rw [Marker.without_other (hafter z hz)]
    exact hyz c hc

/-- R82, R86: a car that has applied an entry at its oldest marker, and does not wait. -/
theorem MarkerUnit.Serial.apply (h : u.Serial) {c : Car} {m : Marker} {x : CarRegime}
    (hlen : u.queue.length ≤ 32) (hm : oldestIn u.queue c = some m) (hx : x.waiting = none)
    (hqueue : v.queue = heldMarkers (u.queue.map (Marker.without c m.serial)))
    (hcounter : v.serialCounter = u.serialCounter) (hcars : v.cars = u.cars.set c x)
    (hholds : ∀ hold ∈ v.attention, hold ∈ u.attention ∧ hold.car ≠ c) : v.Serial :=
  h.leave (Marker.without_fields c m.serial) (fun x _ hd => Marker.without_others m.serial x hd)
    (without_pairwise h.nested (h.nodup hlen) hm) hx hqueue hcounter hcars hholds

/-- R90: a car that has left every pending set, whose hold is withdrawn, and which does not wait. -/
theorem MarkerUnit.Serial.disabled (h : u.Serial) (c : Car) : (u.disabled c).Serial := by
  refine h.leave (c := c) (f := Marker.leave c) (x := u.cars[c].released)
    (fun _ => ⟨rfl, rfl, rfl⟩) (fun m d hd => by simp [Marker.leave, hd])
    (List.pairwise_of_forall fun y z hc => absurd hc (by simp [Marker.leave])) rfl rfl rfl rfl
    fun hold hhold => ?_
  unfold MarkerUnit.disabled at hhold
  dsimp only at hhold
  split at hhold
  · cases hhold
  · rename_i hany
    refine ⟨hhold, fun e => hany ?_⟩
    rw [Option.any_eq_true]
    exact ⟨hold, hhold, by simpa using e⟩

/-- R89: the marker unit after a line clear. -/
theorem MarkerUnit.Serial.emptied (h : u.Serial) : u.emptied.Serial where
  counter := h.counter
  chain := List.isChain_singleton _
  range := nofun
  nested := List.Pairwise.nil
  kinds := nofun
  waits := fun c n hn => by simp [MarkerUnit.emptied, CarRegime.released] at hn
  holds := nofun

end Unit

end Sys2Proof.Machine
end

section
/-! Serials, section ends and waits kept by every step (R73, R74, R83, R84, R106): each DRAINING bank is owed
one notice, by a queued SECTION_END marker or by a notice that waits until a section end is complete
(R105). -/

set_option Elab.async false

namespace Sys2Proof.Machine

/-! ## Banks owed a notice -/

/-- The banks of the queued markers, head first. -/
def queuedBanks (q : List Marker) : List Bank := q.filterMap (·.bank)

/-- The banks that the route store is still to be told of: those of the queued markers and those of the
notices that wait. -/
def State.owed (s : State) : List Bank := queuedBanks s.marker.queue ++ s.book.notices

/-- R106: a DRAINING bank is owed one notice, any other none. -/
def BanksMatched (s : State) : Prop :=
  ∀ bank, s.owed.count bank = if (s.route.bank bank).state = .draining then 1 else 0

theorem queuedBanks_map {f : Marker → Marker} (hf : ∀ m, (f m).bank = m.bank) (q : List Marker) :
    queuedBanks (q.map f) = queuedBanks q := by
  simp only [queuedBanks, List.filterMap_map, Function.comp_def, hf]

/-- The markers of a bank are counted where its name is. -/
theorem count_queuedBanks (q : List Marker) (bank : Bank) :
    (queuedBanks q).count bank = (q.filter (fun m => m.bank = some bank)).length := by
  induction q with
  | nil => rfl
  | cons m q ih =>
    unfold queuedBanks at ih ⊢
    rw [List.filterMap_cons, List.filter_cons]
    cases hm : m.bank with
    | none => simpa using ih
    | some own =>
      by_cases hown : own = bank
      · subst hown
        simpa using ih
      · simpa [hown] using ih

/-- R71, R74: each queued marker is a TRACK marker or carries a bank. -/
theorem length_le_kinds {q : List Marker}
    (hkinds : ∀ m ∈ q, m.kind = .sectionEnd ↔ m.bank.isSome = true) :
    q.length ≤ (trackMarkers q).length + ((queuedBanks q).count .a + (queuedBanks q).count .b) := by
  induction q with
  | nil => exact Nat.zero_le _
  | cons m q ih =>
    have hm := hkinds m (by simp)
    have hq := ih fun x hx => hkinds x (by simp [hx])
    unfold trackMarkers queuedBanks at hq ⊢
    rw [List.filterMap_cons, List.filter_cons]
    cases hbank : m.bank with
    | none =>
      have hkind : m.kind = .track := by
        cases hk : m.kind with
        | track => rfl
        | sectionEnd => simpa [hbank] using hm.1 hk
      simp only [hkind, decide_true, if_true, List.length_cons]
      omega
    | some own =>
      have hkind : m.kind = .sectionEnd := hm.2 (by simp [hbank])
      cases own <;> simp [hkind] <;> omega

section Owed

variable {s t : State}

/-- Where as much is owed and no bank begins or ceases to drain. -/
theorem BanksMatched.of_same (h : BanksMatched s) (howed : t.owed = s.owed)
    (hroute : ∀ bank, (t.route.bank bank).state = .draining ↔ (s.route.bank bank).state = .draining) :
    BanksMatched t := fun bank => by
  rw [howed, h bank]
  exact if_congr (hroute bank).symm rfl rfl

theorem BanksMatched.same (h : BanksMatched s) (k : SameMarkers s t) : BanksMatched t := by
  refine h.of_same ?_ fun bank => ?_
  · rw [State.owed, k.queue, k.notices, State.owed]
  · rw [k.route]

/-- A bank freed by its notice (R106). -/
theorem freePassed_state (bank x : Bank) (s : State) :
    ((freePassed bank s).route.bank x).state =
      if x = bank then .free else (s.route.bank x).state := by
  have hroute : (freePassed bank s).route =
      s.route.setBank bank { s.route.bank bank with state := .free } := by
    rw [freePassed_eq]
    exact offerReport_frame _ _ .route (by decide)
  rw [hroute]
  rcases Bank.eq_or_other x bank with rfl | rfl
  · rw [Route.setBank_same, if_pos rfl]
  · rw [Route.setBank_other, if_neg (by cases bank <;> decide)]

/-- The banks of the notices taken in turn become FREE. -/
theorem freeAll_state (banks : List Bank) (x : Bank) (s : State) :
    ((banks.foldl (fun t bank => freePassed bank t) s).route.bank x).state =
      if x ∈ banks then .free else (s.route.bank x).state := by
  induction banks generalizing s with
  | nil => rw [if_neg List.not_mem_nil]; rfl
  | cons bank banks ih =>
    rw [List.foldl_cons, ih, freePassed_state]
    by_cases hx : x = bank <;> simp [hx]

theorem freeAll_owed (banks : List Bank) (s : State) :
    (banks.foldl (fun t bank => freePassed bank t) s).owed = s.owed := by
  have hframe : SameBut routeFields s (banks.foldl (fun t bank => freePassed bank t) s) :=
    SameBut.foldl (fun t bank => freePassed_frame bank t) _ _
  have hmarker := hframe .marker (by decide)
  have hbook := hframe .book (by decide)
  exact congrArg₂ (fun u b => queuedBanks u.queue ++ b.notices) hmarker hbook

/-- R106: banks that are told that their markers have left are owed nothing more, and are FREE. -/
theorem BanksMatched.free {banks : List Bank} (h : BanksMatched s)
    (howed : s.owed.Perm (banks ++ t.owed)) (hroute : t.route = s.route) :
    BanksMatched (banks.foldl (fun t bank => freePassed bank t) t) := fun x => by
  have hcount := h x
  rw [howed.count_eq, List.count_append] at hcount
  rw [freeAll_owed, freeAll_state, hroute]
  by_cases hx : x ∈ banks
  · have hpos := List.count_pos_iff.2 hx
    rw [if_pos hx, if_neg (by decide)]
    split at hcount <;> omega
  · rw [List.count_eq_zero_of_not_mem hx, Nat.zero_add] at hcount
    rw [if_neg hx, hcount]

/-- R75: the emptied markers that leave take their banks with them. -/
theorem thinned_owed (s : State) : s.owed.Perm (s.emptiedBanks ++ s.thinned.owed) := by
  have hqueue : (queuedBanks s.marker.queue).Perm
      (s.emptiedBanks ++ queuedBanks s.thinned.marker.queue) := by
    have hsplit := (List.filter_append_perm (fun m : Marker => m.pending.isEmpty)
      s.marker.queue).symm.filterMap (·.bank)
    rw [List.filterMap_append] at hsplit
    exact hsplit
  have happend := hqueue.append_right s.book.notices
  rw [List.append_assoc] at happend
  exact happend

theorem dropEmptied_banks (w : Bool) (h : BanksMatched s) : BanksMatched (dropEmptied w s) := by
  cases w with
  | false =>
    rw [dropEmptied_eq]
    exact h.free (thinned_owed s) rfl
  | true =>
    rw [dropEmptied_true_eq]
    intro bank
    have hperm : s.owed.Perm (queuedBanks s.thinned.marker.queue ++
        (s.book.notices ++ s.emptiedBanks)) := by
      refine (thinned_owed s).trans (List.perm_append_comm.trans ?_)
      rw [← List.append_assoc]
      exact .refl _
    exact (hperm.count_eq bank).symm.trans (h bank)

theorem takeNotices_banks (h : BanksMatched s) : BanksMatched (takeNotices s) := by
  refine h.free (t := s.setBook { s.book with notices := [] }) ?_ rfl
  refine List.perm_append_comm.trans ?_
  exact List.Perm.append_left _ (by rw [State.owed]; simp)

theorem takeNotices_notices (s : State) : (takeNotices s).book.notices = [] := by
  have hframe : SameBut routeFields (s.setBook { s.book with notices := [] }) (takeNotices s) :=
    SameBut.foldl (fun t bank => freePassed_frame bank t) _ _
  exact congrArg Book.notices (hframe .book (by decide))

theorem applyEntry_banks (w : Bool) (c : Car) (n : Nat) (e : RegimeEntry) (h : BanksMatched s) :
    BanksMatched (applyEntry w c n e s) := by
  have happlied : BanksMatched (s.applied w c n e) := by
    refine dropEmptied_banks w (h.of_same ?_ fun _ => Iff.rfl)
    exact congrArg (· ++ s.book.notices)
      (queuedBanks_map (fun m => (Marker.without_fields c n m).2.2) s.marker.queue)
  rw [applyEntry_eq]
  split
  · exact happlied.same (.of_frame (regimeTrigger_frame _ _ _))
  · exact happlied

end Owed

/-! ## Serials, banks and waits -/

/-- R73, R74, R83, R84, R106: what every step keeps of the serials, with the order of the queue that it
rests on. -/
structure SerialsFit (s : State) : Prop where
  queue : QueueFit False s
  unit : s.marker.Serial
  banks : BanksMatched s

section Fit

variable {s t : State}

/-- R71, R74: at most 32 markers are queued. -/
theorem SerialsFit.length_le (h : SerialsFit s) : s.marker.queue.length ≤ 32 := by
  have hkinds := length_le_kinds h.unit.kinds
  have htracks : (trackMarkers s.marker.queue).length ≤ 30 := h.queue.tracks
  have hbank : ∀ bank, (queuedBanks s.marker.queue).count bank ≤ 1 := fun bank => by
    have hbanks := h.banks bank
    rw [State.owed, List.count_append] at hbanks
    split at hbanks <;> omega
  have ha := hbank .a
  have hb := hbank .b
  omega

theorem SerialsFit.serials_nodup (h : SerialsFit s) : s.serials.Nodup := h.unit.nodup h.length_le

theorem SerialsFit.same (h : SerialsFit s) (k : SameMarkers s t) : SerialsFit t where
  queue := h.queue.same k
  unit := h.unit.congr k.queue k.counter k.cars k.attention
  banks := h.banks.same k

theorem dropEmptied_serials (w : Bool) (h : SerialsFit s) : SerialsFit (dropEmptied w s) where
  queue := (dropEmptied_queueFit w h.queue).weaken fun _ => trivial
  unit := by
    rw [dropEmptied_marker]
    exact h.unit.drop
  banks := dropEmptied_banks w h.banks

/-! ## Passes -/

/-- R84: the record names a waiting car. -/
theorem MarkerUnit.Serial.hold_other {u : MarkerUnit} (h : u.Serial) {c : Car}
    (hwaiting : u.cars[c].waiting = none) {hold : Attention} (hhold : hold ∈ u.attention) :
    hold.car ≠ c := fun e => by
  subst e
  have hwaits := h.holds hold hhold
  rw [hwaiting] at hwaits
  cases hwaits

theorem applyEntry_serials (w : Bool) {c : Car} {m : Marker} (e : RegimeEntry) (h : SerialsFit s)
    (hm : s.oldest c = some m) (hwaiting : (s.regime c).waiting = none) :
    SerialsFit (applyEntry w c m.serial e s) where
  queue := (applyEntry_queueFit w c m.serial e h.queue).weaken fun _ => trivial
  unit := by
    have hx : ({ s.regime c with regime := e.next, authority := e.authority } : CarRegime).waiting =
      none := hwaiting
    rw [applyEntry_marker]
    exact h.unit.apply h.length_le hm hx rfl rfl rfl fun hold hhold =>
      ⟨hhold, h.unit.hold_other hwaiting hhold⟩
  banks := applyEntry_banks w c m.serial e h.banks

/-- What a car that begins to wait, or applies, at its oldest marker keeps, its turn keeps. -/
theorem passCar_keeps {P : State → Prop} {w : Bool} {c : Car}
    (hserials : ∀ {t}, P t → t.serials.Nodup)
    (hwait : ∀ {t m}, P t → t.oldest c = some m → (t.regime c).waiting = none →
      P (setRegime c { t.regime c with waiting := some m.serial } t))
    (happly : ∀ {t m} e, P t → t.oldest c = some m → (t.regime c).waiting = none →
      P (applyEntry w c m.serial e t))
    (h : P s) : P (passCar w c s) := by
  generalize hl : s.marker.queue.filter (fun m => m.pending.contains c) = l
  induction l generalizing s with
  | nil =>
    rw [passCar_none (by rw [oldest_eq_head, hl]; rfl)]
    exact h
  | cons m rest ih =>
    have hm : s.oldest c = some m := by rw [oldest_eq_head, hl]; rfl
    by_cases hpart : s.enabled c = false ∨ (s.regime c).waiting.isSome = true
    · rwa [passCar_idle hpart]
    · rw [not_or, Bool.not_eq_false, Option.not_isSome_iff_eq_none] at hpart
      obtain ⟨henabled, hwaiting⟩ := hpart
      by_cases hdue : m.cell ≤ s.tapCell c
      · by_cases hattention : (s.entry (s.regime c).regime m.cls).attention = true
        · rw [passCar_waits hm henabled hwaiting hdue hattention]
          exact hwait h hm hwaiting
        · rw [passCar_applies hm henabled hwaiting (hserials h) hdue (Bool.not_eq_true _ ▸ hattention)]
          exact ih (happly _ h hm hwaiting) (applyEntry_holding w _ (hserials h) hl)
      · rwa [passCar_above hm henabled hwaiting (Int.not_le.mp hdue)]

theorem passCar_serials (w : Bool) (c : Car) (h : SerialsFit s) : SerialsFit (passCar w c s) :=
  passCar_keeps (fun ht => ht.serials_nodup)
    (fun ht hm hwaiting =>
      { queue := ht.queue.thin (.refl _) (fun _ => rfl) ht.queue.pending
        unit := ht.unit.wait hm hwaiting rfl
        banks := ht.banks.of_same rfl fun _ => Iff.rfl })
    (fun e ht hm hwaiting => applyEntry_serials w e ht hm hwaiting) h

theorem arbiter_serials (h : SerialsFit s) : SerialsFit (arbiter s) := by
  have hframe := arbiter_turn s
  rcases arbiter_cases s with e | ⟨m, c, -, hserve, e⟩
  · rwa [e]
  · obtain ⟨-, hwaits⟩ := toServe_some hserve
    have howed : (arbiter s).owed = s.owed := by
      rw [State.owed, (arbiter_keeps s).1, hframe .book (by decide), State.owed]
    exact
      { queue := h.queue.thin ((arbiter_keeps s).1 ▸ .refl _) (enabled_of_frame hframe) nofun
        unit := by
          rw [e]
          exact h.unit.fill hwaits
        banks := h.banks.of_same howed fun _ => by rw [hframe .route (by decide)] }

theorem pass_serials (w : Bool) (h : SerialsFit s) : SerialsFit (pass w s) :=
  arbiter_serials (forCars_keeps (fun c _ ht => passCar_serials w c ht) s h)

/-! ## Section ends -/

/-- R72, R74: a marker queued with every enabled car pending. -/
theorem MarkerUnit.Serial.enqueue (h : s.marker.Serial) (k : QueueFit False s) {m : Marker}
    (hm : m.serial = s.marker.serialCounter) (hkind : m.kind = .sectionEnd ↔ m.bank.isSome = true)
    (hpending : m.pending = s.enabledCars) :
    ({ s.marker with
        queue := s.marker.queue ++ [m],
        serialCounter := nextSerial s.marker.serialCounter } : MarkerUnit).Serial :=
  h.join hm hkind fun x hx c hc => by
    rw [hpending]
    exact List.mem_filter.2 ⟨mem_allCars c, k.enabled x hx c hc⟩

/-- R104: the bank that ends drains, and its marker is queued. -/
theorem draining_serials {bank : Bank} (h : SerialsFit s)
    (hbank : (s.route.bank bank).state = .inUse) : SerialsFit (s.draining bank) where
  queue := draining_queueFit bank h.queue
  unit := h.unit.enqueue h.queue (m := endMarker bank s) rfl (by simp [endMarker]) rfl
  banks := fun x => by
    have hx := h.banks x
    have howed : (s.draining bank).owed =
        queuedBanks s.marker.queue ++ [bank] ++ s.book.notices := by
      simp [State.owed, State.draining, queuedBanks, endMarker]
    rw [howed, List.count_append, List.count_append, List.count_singleton]
    rw [State.owed, List.count_append] at hx
    have hroute : (s.draining bank).route =
        s.route.setBank bank { s.route.bank bank with state := .draining } := rfl
    rw [hroute]
    rcases Bank.eq_or_other x bank with rfl | rfl
    · rw [hbank, if_neg (by decide)] at hx
      rw [Route.setBank_same, if_pos rfl, if_pos (by simp)]
      omega
    · rw [Route.setBank_other, if_neg (by cases bank <;> decide)]
      omega

/-- A bank record replaced, where the bank neither begins nor ceases to drain. -/
theorem setBank_serials {bank : Bank} {x : BankRecord} (h : SerialsFit s)
    (hx : x.state = .draining ↔ (s.route.bank bank).state = .draining) :
    SerialsFit (setBank bank x s) where
  queue := h.queue.of_frame (setBank_frame _ _ _)
  unit := h.unit
  banks := h.banks.of_same rfl fun y => by
    have hroute : (setBank bank x s).route = s.route.setBank bank x := rfl
    rw [hroute]
    rcases Bank.eq_or_other y bank with rfl | rfl
    · rw [Route.setBank_same, hx]
    · rw [Route.setBank_other]

theorem startBank_serials {bank : Bank} {n : Nat} {cause : RouteCause}
    {anchor : Option (MarkerClass × Byte)} (h : SerialsFit s)
    (hbank : (s.route.bank bank).state = .ready) : SerialsFit (startBank bank n cause anchor s) :=
  (setBank_serials h (by simp [hbank])).same (offerReport_same _ _)

theorem endSection_serials {bank : Bank} (h : SerialsFit s)
    (hbank : (s.route.bank bank).state = .inUse) : SerialsFit (s.endSection bank) := by
  have hdrained : SerialsFit (drainBank bank s) := by
    rw [drainBank_eq]
    exact (pass_serials true (dropEmptied_serials true (draining_serials h hbank))).same
      (offerReport_same _ _)
  rw [State.endSection, chainOrUnknown]
  split
  · rename_i hready
    exact startBank_serials hdrained hready
  · exact hdrained.same (offerReport_same _ _)

theorem endChain_serials (n : Nat) (h : SerialsFit s) : SerialsFit (endChain n s) := by
  induction n generalizing s with
  | zero => exact h
  | succ n ih =>
    cases hdue : s.endDue with
    | none => rwa [endChain_none _ hdue]
    | some bank =>
      rw [endChain_some n hdue]
      exact ih (endSection_serials h (endDue_inUse hdue))

theorem endTest_serials (h : SerialsFit s) : SerialsFit (endTest s) := by
  have hchain := endChain_serials 2 h
  have hframe := takeNotices_notice (endChain 2 s)
  exact
    { queue := hchain.queue.of_frame hframe
      unit := by
        rw [endTest, hframe .marker (by decide)]
        exact hchain.unit
      banks := takeNotices_banks hchain.banks }

theorem endTest_notices (s : State) : (endTest s).book.notices = [] := takeNotices_notices _

/-! ## Track markers -/

theorem offerAnchor_serials (cls : MarkerClass) (param : Byte) (cell : Nat) (h : SerialsFit s)
    (hnotices : s.book.notices = []) :
    SerialsFit (offerAnchor cls param cell s) ∧
      (offerAnchor cls param cell s).book.notices = [] := by
  have hstart : ∀ bank n, (s.route.bank bank).anchoredAt cls param = true →
      SerialsFit (endTest (startBank bank n .anchor (some (cls, param)) s)) := fun bank n hanchor =>
    endTest_serials (startBank_serials h ((BankRecord.anchoredAt_iff _ _ _).1 hanchor).1)
  unfold offerAnchor
  split
  · exact ⟨h, hnotices⟩
  · split
    · rename_i ha
      exact ⟨hstart .a _ ha, endTest_notices _⟩
    · split
      · rename_i hb
        exact ⟨hstart .b _ hb, endTest_notices _⟩
      · exact ⟨h, hnotices⟩

theorem enqueue_serials (cls : MarkerClass) (param : Byte) {cell : Nat} (h : SerialsFit s)
    (hcell : ∀ tail ∈ s.tailCell, tail ≤ cell) (hplace : s.trackCount < 30) :
    SerialsFit (enqueue .track cls param cell none s) where
  queue := enqueue_queueFit cls param h.queue hcell hplace
  unit := h.unit.enqueue h.queue rfl (by simp) rfl
  banks := h.banks.of_same (by simp [State.owed, enqueue, queuedBanks]) fun _ => Iff.rfl

theorem queueTrack_serials (cls : MarkerClass) (param : Byte) {cell : Nat} (h : SerialsFit s)
    (hnotices : s.book.notices = []) (hcell : ∀ tail ∈ s.tailCell, tail ≤ cell)
    (hplace : s.trackCount < 30) :
    SerialsFit (queueTrack cls param cell s) ∧ (queueTrack cls param cell s).book.notices = [] := by
  obtain ⟨hoffer, hnone⟩ := offerAnchor_serials cls param cell
    (enqueue_serials cls param h hcell hplace) hnotices
  refine ⟨pass_serials false (dropEmptied_serials false hoffer), ?_⟩
  rw [queueTrack, pass_false_frame _ .book (by decide), dropEmptied_false_frame _ .book (by decide)]
  exact hnone

/-! ## Holds, line clears and profiles -/

/-- R86, R87: the held car leaves its oldest marker, and the record empties. -/
theorem endHold_serials (e : RegimeEntry) {hold : Attention} (h : SerialsFit s)
    (hhold : s.marker.attention = some hold) : SerialsFit (endHold hold e s) where
  queue := (endHold_queueFit hold e h.queue).weaken fun _ => trivial
  unit := by
    have hwaits := h.unit.waits hold.car hold.serial (h.unit.holds hold hhold)
    obtain ⟨m, hm, hserial⟩ := Option.map_eq_some_iff.1 hwaits
    have hx : e.released.waiting = none := rfl
    rw [endHold_marker, ← hserial]
    exact h.unit.apply h.length_le hm hx rfl rfl rfl nofun
  banks := by
    rw [endHold_eq]
    exact (applyEntry_banks false hold.car hold.serial e h.banks).of_same rfl fun _ => Iff.rfl

/-- R89, R108: a line clear leaves no marker and no bank in a section. -/
theorem lineClear_serials (own : Option Report) (h : SerialsFit s) (hnotices : s.book.notices = []) :
    SerialsFit (lineClear own s) ∧ (lineClear own s).book.notices = [] := by
  obtain ⟨hmarker, hroute, hbook⟩ := lineClear_blocks own s
  have hnone : (lineClear own s).book.notices = [] := hbook.trans hnotices
  refine ⟨⟨.of_nil (lineClear_queue own s), hmarker ▸ h.unit.emptied, fun bank => ?_⟩, hnone⟩
  have hstate : (s.route.bank bank).cleared.state ≠ .draining := fun e => by
    have hcleared := (s.route.bank bank).cleared_state
    rw [e] at hcleared
    cases hcleared
  rw [State.owed, lineClear_queue, hnone, hroute, Route.cleared_bank, if_neg hstate]
  rfl

/-- R158: a restart resets the regimes of all cars after its line clear. -/
theorem restart_serials (own : Option Report) (h : SerialsFit s) (hnotices : s.book.notices = []) :
    SerialsFit (restartMarker (lineClear own s)) := by
  obtain ⟨hclear, -⟩ := lineClear_serials own h hnotices
  have hattention : (lineClear own s).marker.attention = none := by
    rw [(lineClear_blocks own s).1]
    rfl
  exact
    { queue := .of_nil (lineClear_queue own s)
      unit :=
        { hclear.unit with
          waits := fun c n hn => by
            have hreset : (restartMarker (lineClear own s)).marker.cars[c] = .reset := by
              simp [restartMarker]
            rw [hreset] at hn
            cases hn
          holds := fun hold hhold => by
            have hnone : (restartMarker (lineClear own s)).marker.attention = none := hattention
            rw [hnone] at hhold
            cases hhold }
      banks := hclear.banks.of_same rfl fun _ => Iff.rfl }

/-- R90, R140: a disabled car leaves every pending set and its hold, and a pass follows. -/
theorem markerDisable_serials (c : Car) {u : State} (h : SerialsFit s) (hmarker : u.marker = s.marker)
    (hroute : u.route = s.route) (hbook : u.book = s.book)
    (hothers : ∀ d, d ≠ c → u.enabled d = s.enabled d) :
    SerialsFit (markerDisable c u) ∧ (markerDisable c u).book = s.book := by
  obtain ⟨t, ht, htmarker, hframe⟩ := markerDisable_eq c u
  have hdrop := dropEmptied_false_frame (u.left c)
  have htroute := hframe .route (by decide)
  have htbook := hframe .book (by decide)
  rw [hmarker] at htmarker
  have hleft : BanksMatched (u.left c) := h.banks.of_same
    (by
      have howed : (u.left c).owed =
          queuedBanks (u.marker.queue.map (Marker.leave c)) ++ u.book.notices := rfl
      rw [howed, queuedBanks_map (f := Marker.leave c) fun _ => rfl, hmarker, hbook, State.owed])
    fun bank => by
      have hsame : (u.left c).route = s.route := hroute
      rw [hsame]
  have howed : t.owed = (dropEmptied false (u.left c)).owed := by
    rw [State.owed, State.owed, htbook, htmarker, dropEmptied_marker, ← hmarker]
    rfl
  have hfit : SerialsFit t :=
    { queue := (h.queue.disabled htmarker fun d hd => by
        rw [enabled_of_frame hframe (by decide) d, enabled_of_frame hdrop (by decide) d]
        exact hothers d hd).weaken fun _ => trivial
      unit := by
        rw [htmarker]
        exact h.unit.disabled c
      banks := (dropEmptied_banks false hleft).of_same howed fun bank => by rw [htroute] }
  rw [ht]
  refine ⟨pass_serials false hfit, ?_⟩
  rw [pass_false_frame t .book (by decide), htbook, hdrop .book (by decide)]
  exact hbook

/-- R139, R140: a written profile, with what it brings about at the marker unit. -/
theorem applyCarProfile_serials (c : Car) (x : CarProfile) (hoff : OffWhereDisabled s)
    (hqueue : QueueFit True s) (h : SerialsFit s) :
    SerialsFit (applyCarProfile c x s) ∧ (applyCarProfile c x s).book = s.book := by
  have hfit := (applyCarProfile_queueFit c x hoff hqueue).weaken (held' := False) fun _ => trivial
  obtain ⟨hown, hothers⟩ := writeCarProfile_enabled c x s
  have hwritten : QueueFit False (writeCarProfile c x s) → SerialsFit (writeCarProfile c x s) :=
    fun k => ⟨k, h.unit, h.banks.of_same rfl fun _ => Iff.rfl⟩
  unfold applyCarProfile at hfit ⊢
  dsimp only at hfit ⊢
  split at hfit
  · rename_i hstate
    rw [if_pos hstate]
    split at hfit
    · rename_i hx
      rw [if_pos hx]
      have hframe := enableCar_frame c (writeCarProfile c x s)
      have hbook : (enableCar c (writeCarProfile c x s)).book = s.book := hframe .book (by decide)
      have hroute : (enableCar c (writeCarProfile c x s)).route = s.route :=
        hframe .route (by decide)
      have hmarker : (enableCar c (writeCarProfile c x s)).marker =
        { s.marker with cars := s.marker.cars.set c .reset } := enableCar_marker c _
      have hfree : ∀ m ∈ s.marker.queue, c ∉ m.pending := fun m hm hc => by
        have henabled := h.queue.enabled m hm c hc
        rw [(hoff c).1 hstate] at henabled
        cases henabled
      refine ⟨⟨hfit, ?_, h.banks.of_same ?_ fun bank => by rw [hroute]⟩, hbook⟩
      · rw [hmarker]
        exact h.unit.renew hfree rfl
      · rw [State.owed, hmarker, hbook, State.owed]
    · rename_i hx
      rw [if_neg hx]
      exact ⟨hwritten hfit, rfl⟩
  · rename_i hstate
    rw [if_neg hstate]
    split at hfit
    · rename_i hx
      rw [if_pos hx]
      exact ⟨hwritten hfit, rfl⟩
    · rename_i hx
      rw [if_neg hx]
      have hframe := enterStill_frame c .off (writeCarProfile c x s)
      exact markerDisable_serials c h (hframe .marker (by decide)) (hframe .route (by decide))
        (hframe .book (by decide)) fun d hd =>
          (enabled_of_frame hframe (by decide) d).trans (hothers d hd)

end Fit

/-! ## The settled obligation -/

/-- R73, R74, R83, R84, R106: what every step keeps, with the queue in order and no notice waiting. -/
structure SerialsKept (s : State) : Prop where
  queue : QueueFit True s
  fit : SerialsFit s
  notices : s.book.notices = []

theorem serialsKept_iff {s : State} (hqueue : QueueSound s) (hnotices : s.book.notices = []) :
    SerialsSound s ↔ SerialsKept s := by
  have hcount : ∀ bank, s.owed.count bank =
      (s.marker.queue.filter (fun m => m.bank = some bank)).length := fun bank => by
    rw [State.owed, hnotices, List.append_nil, count_queuedBanks]
  constructor
  · rintro ⟨hcounter, hchain, hrange, hnested, hkinds, hbanks, hwaits, hholds⟩
    have hfit := (queueSound_iff s).1 hqueue
    refine ⟨hfit, ⟨hfit.weaken nofun, ⟨hcounter, hchain, hrange, hnested, hkinds, hwaits, hholds⟩,
      fun bank => ?_⟩, hnotices⟩
    rw [hcount]
    exact hbanks bank (by cases bank <;> simp)
  · rintro ⟨-, ⟨-, hunit, hbanks⟩, -⟩
    refine ⟨hunit.counter, hunit.chain, hunit.range, hunit.nested, hunit.kinds, fun bank _ => ?_,
      hunit.waits, hunit.holds⟩
    rw [← hcount]
    exact hbanks bank

theorem serialsKept_invariant : MarkerInvariant SerialsKept where
  same := fun k h => ⟨h.queue.same k, h.fit.same k, k.notices.trans h.notices⟩
  reset := (serialsKept_iff ((queueSound_iff .reset).2 (.of_nil rfl)) rfl).1 (by decide)
  pass := fun h => ⟨pass_queueFit false h.queue, pass_serials false h.fit,
    (congrArg Book.notices (pass_false_frame _ .book (by decide))).trans h.notices⟩
  endTest := fun h => ⟨endTest_queueFit h.queue, endTest_serials h.fit, endTest_notices _⟩
  lineClear := fun own _ h =>
    have hclear := lineClear_serials own h.fit h.notices
    ⟨.of_nil (lineClear_queue own _), hclear.1, hclear.2⟩
  restart := fun own _ h =>
    ⟨.of_nil (lineClear_queue own _), restart_serials own h.fit h.notices,
      (lineClear_serials own h.fit h.notices).2⟩
  queueTrack := fun cls param _ _ hcell hplace h =>
    have htrack := queueTrack_serials cls param h.fit h.notices hcell hplace
    ⟨queueTrack_queueFit cls param h.queue hcell hplace, htrack.1, htrack.2⟩
  endHold := fun e hold _ hhold h => ⟨endHold_queueFit hold e h.queue, endHold_serials e h.fit hhold,
    (congrArg Book.notices (endHold_hold hold e _ .book (by decide))).trans h.notices⟩
  carProfile := fun c x _ hoff h =>
    have happlied := applyCarProfile_serials c x hoff h.queue h.fit
    ⟨applyCarProfile_queueFit c x hoff h.queue, happlied.1,
      (congrArg Book.notices happlied.2).trans h.notices⟩
  setBank := fun hx h =>
    ⟨h.queue.of_frame (setBank_frame _ _ _), setBank_serials h.fit hx, h.notices⟩

/-- Settles O55: serials stay consecutive since markers leave the queue at its head alone, a bank drains
while one notice is owed to it, and a waiting car's oldest marker stays. -/
theorem serialsStaySound : Obligations.SerialsStaySound := by
  intro s t hcars hqueue hbanks hserials hstep
  obtain ⟨-, -, -, hnotices⟩ := hbanks
  have hkept := serialsKept_invariant.step hcars ((serialsKept_iff hqueue hnotices).1 hserials) hstep
  exact (serialsKept_iff ((queueSound_iff t).2 hkept.queue) hkept.notices).2 hkept

end Sys2Proof.Machine
end


section
/-! What the odometry unit and a warm restart do to the blocks behind the history line (R20 to R27, R158): all
of it through at most one advance or line clear. -/

set_option Elab.async false

namespace Sys2Proof.Machine

/-- What an ODOMETRY frame makes of the history line: nothing, an advance or a line clear. -/
inductive LineMove (s : State) : State → Prop
  | stay : LineMove s s
  | advance (k : Nat) (own : State → Option Report) : LineMove s (advance k own s)
  | clear (own : Option Report) : LineMove s (lineClear own s)

/-- What the odometry unit changes by itself. -/
abbrev odoOwnFields : List Field := [.ports, .counters, .odo, .demand]

/-- `t` is reached from `s` by at most one move of the line, and else by the odometry unit alone. -/
def OdoStep (s t : State) : Prop :=
  ∃ u v, SameBut odoOwnFields s u ∧ LineMove u v ∧ SameBut odoOwnFields v t

theorem OdoStep.of_frame {s t : State} (h : SameBut odoOwnFields s t) : OdoStep s t :=
  ⟨s, s, .refl _ _, .stay, h⟩

theorem OdoStep.after {s t u : State} (h : OdoStep s t) (k : SameBut odoOwnFields t u) :
    OdoStep s u := by
  obtain ⟨v, w, hbefore, hmove, hafter⟩ := h
  exact ⟨v, w, hbefore, hmove, hafter.trans k⟩

theorem OdoStep.before {s t u : State} (h : SameBut odoOwnFields s t) (k : OdoStep t u) :
    OdoStep s u := by
  obtain ⟨v, w, hbefore, hmove, hafter⟩ := k
  exact ⟨v, w, h.trans hbefore, hmove, hafter⟩

theorem slip_own (s : State) : SameBut odoOwnFields s (slip s) := by
  have hodo := (setOdo_frame s { s.odo with uncertain := true, recovery := 0 }).mono
    (by decide : ([.odo] : List Field) ⊆ odoOwnFields)
  exact .ite hodo (hodo.trans ((offerReport_frame _ _).mono (by decide)))

theorem recover_own (k : Nat) (s : State) : SameBut odoOwnFields s (recover k s) :=
  .ite (.ite (((setOdo_frame _ _).mono (by decide)).trans ((offerReport_frame _ _).mono (by decide)))
    ((setOdo_frame _ _).mono (by decide))) (.refl _ _)

/-- R23, R25 to R27: a delta moves the line forward, or not at all. -/
theorem takeDelta_step (delta : Int) (s : State) : OdoStep s (takeDelta delta s) := by
  have hodo : ∀ x, SameBut odoOwnFields s (s.setOdo x) :=
    fun x => (setOdo_frame s x).mono (by decide)
  unfold takeDelta
  split
  · exact .of_frame ((hodo _).trans ((offerReport_frame _ _).mono (by decide)))
  · split
    · exact .of_frame (hodo _)
    · dsimp only
      split
      · exact .of_frame (hodo _)
      · exact ⟨_, _, hodo _, .advance _ _, .refl _ _⟩

/-- R20, R22, R24: a frame taken moves the line once at most. -/
theorem takeOdometry_step (d : Distance) (v : Nat) (slipped : Bool) (s : State) :
    OdoStep s (takeOdometry d v slipped s) := by
  have hslip : ∀ t, SameBut odoOwnFields t (if slipped then slip t else t) :=
    fun t => .ite (slip_own t) (.refl _ _)
  have hreference : ∀ t, SameBut odoOwnFields t (setReference d v t) :=
    fun t => (setReference_frame d v t).mono (by decide)
  unfold takeOdometry
  split
  case h_1 => exact .of_frame ((hreference s).trans (hslip _))
  case h_2 =>
    have hspeed := (setSpeed_frame v s).mono (by decide : [Field.odo, .demand] ⊆ odoOwnFields)
    have htimeout := (setOdo_frame (setSpeed v s)
      { (setSpeed v s).odo with timeout := some 100, lastDistance := d }).mono
        (by decide : ([.odo] : List Field) ⊆ odoOwnFields)
    exact OdoStep.before (hspeed.trans htimeout)
      ((takeDelta_step _ _).after (.ite (slip_own _) (recover_own _ _)))
  case h_3 => exact ⟨s, _, .refl _ _, .clear _, (hreference _).trans (hslip _)⟩

theorem handleOdometry_step (p : List Byte) (s : State) : OdoStep s (handleOdometry p s) := by
  unfold handleOdometry
  split
  · exact .of_frame (.refl _ _)
  · split
    · exact takeOdometry_step _ _ _ s
    · split
      · exact takeOdometry_step _ _ _ s
      · exact .of_frame (.refl _ _)

theorem odometryExpiry_own (s : State) : SameBut odoOwnFields s (odometryExpiry s) :=
  .ite ((((setOdo_frame _ _).mono (by decide)).trans ((setSpeed_frame _ _).mono (by decide))).trans
    ((offerReport_frame _ _).mono (by decide))) (.refl _ _)

/-- What a warm restart changes before its line clear (R158). -/
theorem restartBlocks_eq (s : State) : ∃ own u,
    SameBut [.executor, .cars, .odo, .sensor, .demand] s u ∧
      restartBlocks s = restartMarker (lineClear own u) := by
  have hcars : SameBut [.executor, .cars] s (forCars restartCar (setOpState .safe s)) :=
    ((setOpState_frame .safe s).mono (by decide)).trans
      ((forCars_frame (fun c t => setChannel_frame c _ t) _).mono (by decide))
  refine ⟨_, _, ?_, rfl⟩
  exact (hcars.mono (by decide)).trans (((restartOdometry_frame _).mono (by decide)).trans
    (((setSensor_frame _ _).mono (by decide)).trans ((setDemand_frame _ _).mono (by decide))))

end Sys2Proof.Machine
end

section
/-! The banks of the route store after every step (R93, R97, R101 to R108): a bank is loaded, checked,
started, ended or freed, and each of these keeps its section checked and apart from the other bank's. -/

set_option Elab.async false

namespace Sys2Proof.Machine

/-! ## The banks sound -/

/-- R93, R97: a section on the line has a start cell, a bank that is not FREE a header, and a checked
section has passed the point checks. -/
structure BankRecord.Sound (b : BankRecord) : Prop where
  start : b.state.inSection = true → b.startCell.isSome = true
  header : b.state ≠ .free → b.header.isSome = true
  points : b.state = .ready ∨ b.state.inSection = true → pointsSound b.points b.length = true

/-- R101: no cell lies inside the sections of both records. -/
def BankRecord.Apart (x y : BankRecord) : Prop := x.endCell ≤ y.startNat ∨ y.endCell ≤ x.startNat

/-- R93, R101: each bank sound, at most one IN_USE, and the sections that lie on the line apart. -/
structure Route.Sound (r : Route) : Prop where
  bank : ∀ bank, (r.bank bank).Sound
  single : ∀ bank, (r.bank bank).state = .inUse → (r.bank bank.other).state ≠ .inUse
  apart : ∀ bank, (r.bank bank).state.inSection = true →
    (r.bank bank.other).state.inSection = true → (r.bank bank).Apart (r.bank bank.other)

/-- What every step keeps of the banks (notes/assumptions/10.md: no notice waits between two steps). -/
structure BanksKept (s : State) : Prop where
  route : s.route.Sound
  notices : s.book.notices = []

theorem Bank.forall_iff {p : Bank → Prop} : (∀ bank, p bank) ↔ p .a ∧ p .b :=
  ⟨fun h => ⟨h .a, h .b⟩, fun ⟨ha, hb⟩ bank => by cases bank <;> assumption⟩

theorem banksSound_iff (s : State) : BanksSound s ↔ BanksKept s := by
  constructor
  · rintro ⟨hbank, hsingle, hapart, hnotices⟩
    have hsingles : ∀ bank, (s.route.bank bank).state = .inUse →
        (s.route.bank bank.other).state ≠ .inUse :=
      Bank.forall_iff.2 ⟨fun ha hb => hsingle ⟨ha, hb⟩, fun hb ha => hsingle ⟨ha, hb⟩⟩
    refine ⟨⟨fun bank => ?_, hsingles,
      Bank.forall_iff.2 ⟨hapart, fun hb ha => (hapart ha hb).symm⟩⟩, hnotices⟩
    obtain ⟨hstart, hheader, hpoints⟩ := hbank bank (by cases bank <;> simp)
    exact ⟨hstart, hheader, hpoints⟩
  · rintro ⟨h, hnotices⟩
    exact ⟨fun bank _ => ⟨(h.bank bank).start, (h.bank bank).header, (h.bank bank).points⟩,
      fun ⟨ha, hb⟩ => h.single .a ha hb, h.apart .a, hnotices⟩

theorem BankRecord.free_sound (b : BankRecord) : ({ b with state := .free } : BankRecord).Sound where
  start := nofun
  header := fun h => absurd rfl h
  points := by simp [BankState.inSection]

/-! ## What becomes of a bank -/

section Changes

variable {r : Route} {bank : Bank}

theorem Route.Sound.setBank {x : BankRecord} (h : r.Sound) (hx : x.Sound)
    (hsingle : x.state = .inUse → (r.bank bank.other).state ≠ .inUse)
    (hapart : x.state.inSection = true → (r.bank bank.other).state.inSection = true →
      x.Apart (r.bank bank.other)) : (r.setBank bank x).Sound where
  bank := fun y => by
    rcases Bank.eq_or_other y bank with rfl | rfl
    · rwa [Route.setBank_same]
    · rw [Route.setBank_other]
      exact h.bank _
  single := fun y => by
    rcases Bank.eq_or_other y bank with rfl | rfl
    · rwa [Route.setBank_same, Route.setBank_other]
    · rw [Bank.other_other, Route.setBank_same, Route.setBank_other]
      exact fun hother hown => hsingle hown hother
  apart := fun y => by
    rcases Bank.eq_or_other y bank with rfl | rfl
    · rwa [Route.setBank_same, Route.setBank_other]
    · rw [Bank.other_other, Route.setBank_same, Route.setBank_other]
      exact fun hother hown => (hapart hown hother).symm

/-- A bank that leaves the line, or is loaded while it lies on none. -/
theorem Route.Sound.setBank_off {x : BankRecord} (h : r.Sound) (hx : x.Sound)
    (hoff : x.state.inSection = false) : (r.setBank bank x).Sound :=
  h.setBank hx (fun e => by rw [e] at hoff; cases hoff) fun hon => by rw [hoff] at hon; cases hon

/-- R98, R106, R108: a bank becomes FREE. -/
theorem Route.Sound.free (h : r.Sound) :
    (r.setBank bank { r.bank bank with state := .free }).Sound :=
  h.setBank_off (BankRecord.free_sound _) rfl

/-- R102, R103: a READY bank starts at or above the end cell of a bank that drains. -/
theorem Route.Sound.start {n : Nat} (h : r.Sound) (hready : (r.bank bank).state = .ready)
    (hother : (r.bank bank.other).state ≠ .inUse)
    (hcell : (r.bank bank.other).state = .draining → (r.bank bank.other).endCell ≤ n) :
    (r.setBank bank { r.bank bank with state := .inUse, startCell := some n }).Sound := by
  refine h.setBank ⟨fun _ => rfl, fun _ => ?_, fun _ => ?_⟩ (fun _ => hother) fun _ hon => .inr ?_
  · exact (h.bank bank).header (by simp [hready])
  · exact (h.bank bank).points (.inl hready)
  · cases hstate : (r.bank bank.other).state with
    | draining => exact hcell hstate
    | inUse => exact absurd hstate hother
    | free | loading | ready => rw [hstate] at hon; cases hon

/-- R104: the bank IN_USE drains where it lies, and a READY other bank starts at its end cell. -/
theorem Route.Sound.ended (h : r.Sound) (huse : (r.bank bank).state = .inUse) :
    (r.ended bank).Sound := by
  have hon : (r.bank bank).state.inSection = true := by rw [huse]; rfl
  have hdrained : (r.setBank bank { r.bank bank with state := .draining }).Sound :=
    h.setBank ⟨fun _ => (h.bank bank).start hon, fun _ => (h.bank bank).header (by simp [huse]),
      fun _ => (h.bank bank).points (.inr hon)⟩ nofun fun _ => h.apart bank hon
  unfold Route.ended
  dsimp only
  split
  · rename_i hready
    have hstart := hdrained.start (bank := bank.other) (n := (r.bank bank).endCell)
    rw [Bank.other_other, Route.setBank_same, Route.setBank_other] at hstart
    exact hstart hready nofun fun _ => Nat.le_refl _
  · exact hdrained

theorem BankRecord.Sound.cleared {b : BankRecord} (h : b.Sound) : b.cleared.Sound := by
  unfold BankRecord.cleared
  split
  · exact b.free_sound
  · exact h

/-- R108: a line clear leaves no section on the line. -/
theorem Route.Sound.cleared (h : r.Sound) : r.cleared.Sound where
  bank := fun x => by
    rw [Route.cleared_bank]
    exact (h.bank x).cleared
  single := fun x hx => by
    have hoff := (r.bank x).cleared_state
    rw [← Route.cleared_bank, hx] at hoff
    cases hoff
  apart := fun x hx => by
    rw [Route.cleared_bank, BankRecord.cleared_state] at hx
    cases hx

end Changes

/-! ## Notices and passes -/

section Kept

variable {s t : State}

/-- What reaches neither the route store nor the bookkeeping keeps the banks. -/
theorem BanksKept.of_frame {fs : List Field} (h : BanksKept s) (k : SameBut fs s t)
    (hf : Field.route ∉ fs ∧ Field.book ∉ fs := by decide) : BanksKept t where
  route := (congrArg Route.Sound (k .route hf.1)).mpr h.route
  notices := (congrArg Book.notices (k .book hf.2)).trans h.notices

theorem BanksKept.of_traffic (h : BanksKept s) (k : Traffic s t) : BanksKept t where
  route := (congrArg Route.Sound (k.frame .route (by decide))).mpr h.route
  notices := k.notices.trans h.notices

theorem setBank_banks {bank : Bank} {x : BankRecord} (h : BanksKept s)
    (hx : (s.route.setBank bank x).Sound) : BanksKept (setBank bank x s) := ⟨hx, h.notices⟩

theorem freePassed_route (bank : Bank) (s : State) : (freePassed bank s).route =
    s.route.setBank bank { s.route.bank bank with state := .free } :=
  offerRoute_frame _ _ _ _ _ .route (by decide)

theorem freeAll_sound (banks : List Bank) (h : s.route.Sound) :
    (banks.foldl (fun t bank => freePassed bank t) s).route.Sound := by
  induction banks generalizing s with
  | nil => exact h
  | cons bank banks ih =>
    refine ih ?_
    rw [freePassed_route]
    exact h.free

/-- R106: with no section end under way, the banks of the markers that leave become FREE. -/
theorem dropEmptied_banksKept (h : BanksKept s) : BanksKept (dropEmptied false s) where
  route := by
    rw [dropEmptied_eq]
    exact freeAll_sound _ h.route
  notices := (congrArg Book.notices (dropEmptied_false_frame s .book (by decide))).trans h.notices

theorem applyEntry_banksKept (c : Car) (n : Nat) (e : RegimeEntry) (h : BanksKept s) :
    BanksKept (applyEntry false c n e s) := by
  have happlied : BanksKept (s.applied false c n e) :=
    dropEmptied_banksKept (h.of_frame (setMarker_frame s _))
  rw [applyEntry_eq]
  split
  · exact happlied.of_frame (regimeTrigger_frame _ _ _)
  · exact happlied

theorem carPass_banksKept (c : Car) (q : List Marker) (h : BanksKept s) :
    BanksKept (carPass false c q s) := by
  induction q generalizing s with
  | nil => exact h
  | cons m q ih =>
    unfold carPass
    split
    · split
      · dsimp only
        split
        · exact h.of_frame (setRegime_frame _ _ _)
        · exact ih (applyEntry_banksKept _ _ _ h)
      · exact h
    · exact ih h

theorem pass_banksKept (h : BanksKept s) : BanksKept (pass false s) := by
  have hturns : BanksKept (forCars (passCar false) s) := forCars_keeps (fun c t ht => by
    unfold passCar
    split
    · exact carPass_banksKept c _ ht
    · exact ht) s h
  exact hturns.of_frame (arbiter_turn _)

/-! ## Section ends and starts -/

theorem endChain_sound (n : Nat) (h : s.route.Sound) : (endChain n s).route.Sound := by
  induction n generalizing s with
  | zero => exact h
  | succ n ih =>
    cases hdue : s.endDue with
    | none => rwa [endChain_none _ hdue]
    | some bank =>
      rw [endChain_some n hdue]
      refine ih ?_
      rw [endSection_route]
      exact h.ended (endDue_inUse hdue)

/-- R104, R105: the ends, and then the notices that were kept. -/
theorem endTest_banksKept (h : BanksKept s) : BanksKept (endTest s) where
  route := freeAll_sound _ (endChain_sound 2 h.route)
  notices := endTest_notices s

theorem startBank_banksKept {bank : Bank} {n : Nat} (cause : RouteCause)
    (anchor : Option (MarkerClass × Byte)) (h : BanksKept s)
    (hready : (s.route.bank bank).state = .ready)
    (hother : (s.route.bank bank.other).state ≠ .inUse)
    (hcell : (s.route.bank bank.other).state = .draining →
      (s.route.bank bank.other).endCell ≤ n) : BanksKept (startBank bank n cause anchor s) :=
  (setBank_banks h (h.route.start hready hother hcell)).of_frame (offerRoute_frame _ _ _ _ _)

theorem inUse_none_iff (r : Route) : r.inUse = none ↔ ∀ bank, (r.bank bank).state ≠ .inUse := by
  refine ⟨fun h => ?_, Route.inUse_eq_none⟩
  unfold Route.inUse at h
  split at h
  · cases h
  · split at h
    · cases h
    · exact Bank.forall_iff.2 ⟨‹_›, ‹_›⟩

/-- R103: an anchored bank starts while no bank is IN_USE, at or above the end of one that drains. -/
theorem offerAnchor_banksKept (cls : MarkerClass) (param : Byte) (cell : Nat) (h : BanksKept s) :
    BanksKept (offerAnchor cls param cell s) := by
  have hstart : ¬s.route.inUse.isSome = true → ∀ bank,
      (s.route.bank bank).anchoredAt cls param = true → BanksKept (endTest (startBank bank
        (anchorStart bank cell s.route) .anchor (some (cls, param)) s)) := fun hnone bank hanchor => by
    have hidle := (inUse_none_iff s.route).1 (by simpa using hnone)
    refine endTest_banksKept (startBank_banksKept _ _ h
      ((BankRecord.anchoredAt_iff _ _ _).1 hanchor).1 (hidle _) fun hdraining => ?_)
    rw [anchorStart, if_pos hdraining]
    exact Nat.le_max_right _ _
  unfold offerAnchor
  split
  · exact h
  · rename_i hnone
    split
    · rename_i ha
      exact hstart hnone .a ha
    · split
      · rename_i hb
        exact hstart hnone .b hb
      · exact h

/-! ## Markers and holds -/

theorem handleMarker_banksKept (p : List Byte) (h : BanksKept s) : BanksKept (handleMarker p s) := by
  unfold handleMarker
  split
  · exact h
  · split
    · exact h
    · unfold offerMarker
      split
      · exact h.of_frame (offerReport_frame _ _)
      · exact h.of_frame (offerReport_frame _ _)
      · split
        · exact h.of_frame (offerReport_frame _ _)
        · split
          · exact (h.of_frame (setMarker_frame s _)).of_frame (offerReport_frame _ _)
          · exact pass_banksKept (dropEmptied_banksKept
              (offerAnchor_banksKept _ _ _ (h.of_frame (enqueue_frame _ _ _ _ _ s))))

theorem endHold_banksKept (hold : Attention) (e : RegimeEntry) (h : BanksKept s) :
    BanksKept (endHold hold e s) := by
  rw [endHold_eq]
  exact (applyEntry_banksKept _ _ e h).of_frame (setMarker_frame _ _)

theorem attentionExpiry_banksKept (h : BanksKept s) : BanksKept (attentionExpiry s) := by
  unfold attentionExpiry
  split
  · exact h
  · exact pass_banksKept (((endHold_banksKept _ _ h).of_frame (setMarker_frame _ _)).of_frame
      (offerReport_frame _ _))

theorem release_banksKept (serial : Nat) (replacement : Option RegimeEntry) (h : BanksKept s) :
    BanksKept (release serial replacement s).2 := by
  by_cases hheld : ∃ hold ∈ s.marker.attention, hold.serial = serial
  · obtain ⟨hold, hhold, rfl⟩ := hheld
    rw [release_held replacement hhold, done_snd, releaseHold]
    exact pass_banksKept (endHold_banksKept _ _ h)
  · rw [release_refused replacement fun hold hhold e => hheld ⟨hold, hhold, e⟩]
    exact h

theorem actAttentionRelease_banksKept (p : List Byte) (h : BanksKept s) :
    BanksKept (actAttentionRelease p s).2 := by
  unfold actAttentionRelease
  split
  · exact h
  · exact release_banksKept _ _ h
  · split
    · exact h
    · exact release_banksKept _ _ h

/-- R90: a car disabled frees the banks whose markers it was the last to hold. -/
theorem markerDisable_banksKept (c : Car) (h : BanksKept s) : BanksKept (markerDisable c s) := by
  obtain ⟨t, ht, -, hframe⟩ := markerDisable_eq c s
  rw [ht]
  exact pass_banksKept
    ((dropEmptied_banksKept (h.of_frame (setQueue_frame _ s))).of_frame hframe)

theorem actSetCarProfile_banksKept (p : List Byte) (h : BanksKept s) :
    BanksKept (actSetCarProfile p s).2 := by
  rcases actSetCarProfile_cases p s with e | ⟨c, x, -, e⟩ <;> rw [e]
  · exact h
  · have hwritten := h.of_frame (writeCarProfile_frame c x s)
    unfold applyCarProfile
    dsimp only
    split
    · split
      · exact hwritten.of_frame (enableCar_frame c _)
      · exact hwritten
    · split
      · exact hwritten
      · exact markerDisable_banksKept c (hwritten.of_frame (enterStill_frame c .off _))

/-! ## Advances and line clears -/

theorem lineClear_banksKept (own : Option Report) (h : BanksKept s) :
    BanksKept (lineClear own s) := by
  obtain ⟨-, hroute, hnotices⟩ := lineClear_blocks own s
  exact ⟨hroute ▸ h.route.cleared, hnotices.trans h.notices⟩

theorem answerAdvance_banksKept (task : Task) (h : BanksKept s) :
    BanksKept (answerAdvance task s) := by
  cases task with
  | marker => exact pass_banksKept h
  | route => exact endTest_banksKept h
  | capture => exact h.of_frame (overtakingTest_frame s)
  | report r => exact h.of_frame (offerReport_frame r s)

theorem runAdvance_banksKept (tasks : List Task) (h : BanksKept s) :
    BanksKept (runTasks answerAdvance tasks s) := by
  induction tasks generalizing s with
  | nil => exact h
  | cons task tasks ih => exact ih (answerAdvance_banksKept task h)

theorem advance_banksKept (k : Nat) (own : State → Option Report) (h : BanksKept s) :
    BanksKept (advance k own s) := by
  unfold advance
  split
  · split
    · exact h.of_frame (offerReport_frame _ _)
    · exact h
  · dsimp only
    obtain ⟨tasks, n, e⟩ := answerAll_cases answerAdvance
      ((advanceLine (s.line.cut k) s).advanceDue (own (advanceLine (s.line.cut k) s)))
      (own (advanceLine (s.line.cut k) s)) (advanceLine (s.line.cut k) s)
    rw [e]
    exact runAdvance_banksKept tasks
      ((h.of_frame (setLine_frame s _)).of_traffic (setBook_traffic _ n))

/-! ## Every event -/

theorem handleOdometry_banksKept (p : List Byte) (h : BanksKept s) :
    BanksKept (handleOdometry p s) := by
  obtain ⟨u, v, hbefore, hmove, hafter⟩ := handleOdometry_step p s
  have hu := h.of_frame hbefore
  refine BanksKept.of_frame ?_ hafter
  cases hmove with
  | stay => exact hu
  | advance k own => exact advance_banksKept k own hu
  | clear own => exact lineClear_banksKept own hu

theorem deliver_banksKept (role : Role) (p : List Byte) (h : BanksKept s) :
    BanksKept (deliver role p s) := by
  cases role with
  | sensorP => exact h.of_frame (handleSensor_frame .p p s)
  | sensorQ => exact h.of_frame (handleSensor_frame .q p s)
  | odometry => exact handleOdometry_banksKept p h
  | markerReader => exact handleMarker_banksKept p h
  | unitStatus => exact h.of_frame (handleUnitStatus_frame p s)
  | manager => exact h

theorem restartBlocks_banksKept (h : BanksKept s) : BanksKept (restartBlocks s) := by
  obtain ⟨own, u, hbefore, e⟩ := restartBlocks_eq s
  rw [e]
  exact (lineClear_banksKept own (h.of_frame hbefore)).of_frame (setMarker_frame _ _)

theorem actSetLineProfile_banksKept (p : List Byte) (h : BanksKept s) :
    BanksKept (actSetLineProfile p s).2 := by
  have hset := h.of_frame (setProfile_frame s (readLineProfile p))
  unfold actSetLineProfile
  split
  · exact h
  · split
    · exact h
    · rw [done_snd]
      unfold writeProfile
      split
      · exact hset
      · exact lineClear_banksKept _ hset

/-! ## Route requests -/

theorem actRouteOpen_banksKept (p : List Byte) (h : BanksKept s) : BanksKept (actRouteOpen p s).2 := by
  refine onBank_keeps p h fun bank => ?_
  split
  · exact h
  · split
    · exact h
    · exact setBank_banks h (h.route.setBank_off
        ⟨nofun, fun _ => rfl, by simp [BankState.inSection]⟩ rfl)

theorem actRoutePoints_banksKept (p : List Byte) (h : BanksKept s) :
    BanksKept (actRoutePoints p s).2 := by
  refine onBank_keeps p h fun bank => ?_
  dsimp only
  split
  · exact h
  · rename_i hloading
    rw [not_not] at hloading
    split
    · exact h
    · split
      · exact h
      · split
        · exact h
        · split
          · refine setBank_banks h (h.route.setBank_off
              ⟨?_, (h.route.bank bank).header, ?_⟩ ?_) <;> simp [hloading, BankState.inSection]
          · exact h

/-- R97: the bank becomes READY only with the point checks passed. -/
theorem actRouteClose_banksKept (p : List Byte) (h : BanksKept s) :
    BanksKept (actRouteClose p s).2 := by
  refine onBank_keeps p h fun bank => ?_
  dsimp only
  split
  · exact h
  · rename_i hloading
    rw [not_not] at hloading
    split
    · exact h
    · rename_i hpoints
      rw [Bool.not_eq_true', Bool.not_eq_false] at hpoints
      split
      · exact h
      · exact setBank_banks h (h.route.setBank_off ⟨nofun,
          fun _ => (h.route.bank bank).header (by simp [hloading]), fun _ => hpoints⟩ rfl)

theorem actRouteDiscard_banksKept (p : List Byte) (h : BanksKept s) :
    BanksKept (actRouteDiscard p s).2 := by
  refine onBank_keeps p h fun bank => ?_
  split
  · exact setBank_banks h h.route.free
  · exact setBank_banks h h.route.free
  · exact h
  · exact h
  · exact h

theorem act_banksKept {name : RequestName} {act : List Byte → State → Reply × State}
    (hact : name.act = some act) (p : List Byte) (h : BanksKept s) : BanksKept (act p s).2 := by
  have hframe := act_frame hact p s
  cases name <;> cases hact
  case setLineProfile => exact actSetLineProfile_banksKept p h
  case setCarProfile => exact actSetCarProfile_banksKept p h
  case attentionRelease => exact actAttentionRelease_banksKept p h
  case routeOpen => exact actRouteOpen_banksKept p h
  case routePoints => exact actRoutePoints_banksKept p h
  case routeClose => exact actRouteClose_banksKept p h
  case routeDiscard => exact actRouteDiscard_banksKept p h
  all_goals exact h.of_frame hframe (by decide)

end Kept

/-! ## The settled obligation -/

theorem banksKept_invariant : BlockInvariant BanksKept where
  traffic := fun k h => h.of_traffic k
  reset := (banksSound_iff .reset).1 (by decide)
  deliver := fun role p _ h => deliver_banksKept role p h
  odometryExpiry := fun s h => h.of_frame (odometryExpiry_own s)
  channelExpiry := fun x s h => h.of_frame (channelExpiry_frame x s)
  commandExpiry := fun s h => h.of_frame (commandExpiry_frame s)
  attentionExpiry := fun _ h => attentionExpiry_banksKept h
  restart := fun _ h => restartBlocks_banksKept h
  act := fun hact p _ h => act_banksKept hact p h

/-- Settles O56: a bank becomes READY with its points checked, starts at or above the end of one that
drains and only while none is IN_USE, and keeps its section until it is freed. -/
theorem banksStaySound : Obligations.BanksStaySound := by
  intro s t hs hstep
  rw [banksSound_iff] at hs ⊢
  exact banksKept_invariant.step hstep hs

end Sys2Proof.Machine
end

section
/-! The lookup of a route section (R107, R110, R111): which bank is read, at which offset, and what its point
list gives there. -/

set_option Elab.async false

namespace Sys2Proof.Machine

/-! ## The bank that is read -/

/-- R110: the cells of a section, from its start cell up to and without its end cell. -/
theorem BankRecord.contains_iff (b : BankRecord) (x : Int) :
    b.contains x = true ↔ (b.state = .inUse ∨ b.state = .draining) ∧
      ((b.startCell.getD 0 : Nat) : Int) ≤ x ∧
        x < ((b.startCell.getD 0 : Nat) : Int) + (b.header.map (·.length)).getD 0 := by
  rw [BankRecord.contains, Bool.and_eq_true, Bool.and_eq_true, decide_eq_true_eq, decide_eq_true_eq,
    BankState.inSection_iff, and_assoc, BankRecord.endCell, Nat.cast_add, BankRecord.length_eq]
  rfl

theorem Route.lookup_none {r : Route} {x : Int}
    (h : ∀ bank, ¬(r.bank bank).contains x = true) : r.lookup x = none := by
  have ha : ¬r.a.contains x = true := h .a
  have hb : ¬r.b.contains x = true := h .b
  rw [Route.lookup, if_neg ha, if_neg hb]

theorem Route.lookup_bank {r : Route} {x : Int} {bank : Bank}
    (h : (r.bank bank).contains x = true) (hother : ¬(r.bank bank.other).contains x = true) :
    r.lookup x = lookPoints (r.bank bank).points (x - (r.bank bank).startNat).toNat := by
  cases bank with
  | a => exact if_pos h
  | b => exact (if_neg hother).trans (if_pos h)

/-! ## Points of rising offsets -/

theorem rising_cons_cons {x y : Point} {rest : List Point} :
    rising (x :: y :: rest) = true ↔ x.offset < y.offset ∧ rising (y :: rest) = true := by
  simp [rising]

theorem rising_tail {x : Point} {rest : List Point} (h : rising (x :: rest) = true) :
    rising rest = true := by
  cases rest with
  | nil => rfl
  | cons y rest => exact (rising_cons_cons.1 h).2

/-- In a list of rising offsets each point lies below every later one. -/
theorem rising_head_lt {x p : Point} {xs ys : List Point}
    (h : rising (x :: (xs ++ p :: ys)) = true) : x.offset < p.offset := by
  induction xs generalizing x with
  | nil => exact (rising_cons_cons.1 h).1
  | cons y xs ih =>
    obtain ⟨hxy, hrest⟩ := rising_cons_cons.1 h
    exact hxy.trans (ih hrest)

/-! ## What the list gives -/

/-- R110: from the first point's offset on the route is known. -/
theorem lookPoints_isSome {p : Point} {o : Nat} (rest : List Point) (h : p.offset ≤ o) :
    (lookPoints (p :: rest) o).isSome = true := by
  induction rest generalizing p with
  | nil => simp [lookPoints, h]
  | cons q rest ih =>
    unfold lookPoints
    split
    · rename_i hq
      exact ih hq
    · rfl

/-- R110: the points before one at or below the offset play no part. -/
theorem lookPoints_skip {p : Point} {xs ys : List Point} {o : Nat}
    (h : rising (xs ++ p :: ys) = true) (hp : p.offset ≤ o) :
    lookPoints (xs ++ p :: ys) o = lookPoints (p :: ys) o := by
  induction xs with
  | nil => rfl
  | cons x xs ih =>
    rw [← ih (rising_tail h)]
    cases xs with
    | nil => exact if_pos hp
    | cons y xs =>
      have hy : y.offset < p.offset := rising_head_lt (rising_tail h)
      exact if_pos (hy.le.trans hp)

/-- R110, R111: the values between two points. -/
theorem lookPoints_between {p q : Point} {o : Nat} (rest : List Point) (hp : p.offset ≤ o)
    (hq : o < q.offset) : lookPoints (p :: q :: rest) o =
      some ⟨interpolate p.k q.k (o - p.offset) (q.offset - p.offset),
        interpolate p.c q.c (o - p.offset) (q.offset - p.offset), p.permit⟩ := by
  rw [lookPoints, if_neg (Nat.not_le.mpr hq), if_pos hp]

/-! ## Interpolation -/

/-- R113: the nearest-rounded share of a whole is no more than the whole. -/
theorem nearest_share_le {n d span : Nat} (hspan : 0 < span) (hd : d ≤ span) :
    (2 * (n * d) + span) / (2 * span) ≤ n := by
  refine Nat.lt_succ_iff.1 ((Nat.div_lt_iff_lt_mul (by omega)).2 ?_)
  have hle : n * d ≤ n * span := Nat.mul_le_mul_left n hd
  calc 2 * (n * d) + span < 2 * (n * span) + 2 * span := by omega
    _ = (n + 1) * (2 * span) := by ring

/-- R111: an interpolated value lies between the two it is interpolated from. -/
theorem interpolate_mem {x y : Int} {d span : Nat} (hspan : 0 < span) (hd : d ≤ span) :
    min x y ≤ interpolate x y d span ∧ interpolate x y d span ≤ max x y := by
  have hshare := nearest_share_le (n := (y - x).natAbs) hspan hd
  have habs : ((y - x) * d).natAbs = (y - x).natAbs * d := by
    rw [Int.natAbs_mul, Int.natAbs_natCast]
  unfold interpolate nearest
  rw [habs]
  generalize (2 * ((y - x).natAbs * d) + span) / (2 * span) = share at hshare
  rcases Nat.eq_zero_or_pos d with rfl | hpos
  · simp
  · have hsign : ((y - x) * d).sign = (y - x).sign := by
      rw [Int.sign_mul, Int.sign_eq_one_of_pos (Int.natCast_pos.2 hpos), mul_one]
    rw [hsign]
    rcases lt_trichotomy (y - x) 0 with hneg | hzero | hmore
    · rw [Int.sign_eq_neg_one_of_neg hneg]
      omega
    · rw [hzero, Int.sign_zero]
      omega
    · rw [Int.sign_eq_one_of_pos hmore]
      omega

theorem interpolate_zero (x y : Int) (span : Nat) : interpolate x y 0 span = x := by
  simp [interpolate, nearest]

/-! ## The settled obligation -/

/-- Settles O23: the bank by the cells of its section, then the last point at or below the offset, whose
values are moved by a share of the step to the next point. -/
theorem lookupInterpolates : Obligations.LookupInterpolates := by
  refine ⟨fun r x => ?_, fun p rest o _ hp => lookPoints_isSome rest hp,
    fun xs p o h hp => ?_, fun xs ys p q o h hp hq => ?_⟩
  · intro holds
    have hholds : ∀ bank, holds bank ↔ (r.bank bank).contains x = true :=
      fun bank => ((r.bank bank).contains_iff x).symm
    refine ⟨fun hnone => Route.lookup_none fun bank => mt (hholds bank).2 (hnone bank),
      fun hneg => Route.lookup_none fun bank hbank => ?_,
      fun bank hbank hother => Route.lookup_bank ((hholds bank).1 hbank)
        (mt (hholds bank.other).2 hother)⟩
    obtain ⟨-, hstart, -⟩ := ((r.bank bank).contains_iff x).1 hbank
    omega
  · rw [lookPoints_skip h hp, lookPoints, if_pos hp]
  · intro d span k c
    have hspan : 0 < span := Nat.sub_pos_of_lt (hp.trans_lt hq)
    have hd : d ≤ span := Nat.sub_le_sub_right hq.le _
    refine ⟨(lookPoints_skip h hp).trans (lookPoints_between ys hp hq), interpolate_mem hspan hd,
      interpolate_mem hspan hd, fun ho => ?_⟩
    have hzero : d = 0 := by simp only [d, ho, Nat.sub_self]
    have hstay : ∀ x y : Int, x + nearest ((y - x) * d) span = x := fun x y => by
      rw [hzero]
      exact interpolate_zero x y span
    exact ⟨hstay p.k q.k, hstay p.c q.c⟩

end Sys2Proof.Machine
end

section
/-! The route requests (R95 to R98): the bank that a request names, the header and the points that it carries,
and the point checks of Route Close. -/

set_option Elab.async false

namespace Sys2Proof.Machine

/-! ## The bank of a request -/

theorem readBytes_lt (bs : List Byte) : readBytes bs < 256 ^ bs.length := by
  induction bs with
  | nil => exact Nat.one_pos
  | cons b bs ih =>
    have hb := b.isLt
    have hone : readBytes [b] = b.toNat := Nat.zero_add _
    rw [← List.singleton_append, readBytes_append, hone, List.length_append, List.length_singleton,
      Nat.pow_add, Nat.pow_one]
    calc b.toNat * 256 ^ bs.length + readBytes bs < b.toNat * 256 ^ bs.length + 256 ^ bs.length := by
          omega
      _ = (b.toNat + 1) * 256 ^ bs.length := by ring
      _ ≤ 256 * 256 ^ bs.length := Nat.mul_le_mul_right _ hb

/-- A field of `w` bytes. -/
theorem field_lt (p : List Byte) (off w : Nat) : field p off w < 256 ^ w :=
  (readBytes_lt _).trans_le (Nat.pow_le_pow_right (by decide) (List.length_take_le _ _))

theorem onBank_undefined {p : List Byte} {s : State} (act : Bank → Reply × State)
    (h : 1 < field p 0 1) : onBank p s act = refuse .format s := by
  rw [onBank, readBankCode_none h]

theorem onBank_bank {p : List Byte} {s : State} {bank : Bank} (act : Bank → Reply × State)
    (h : field p 0 1 = bank.code) : onBank p s act = act bank := by
  rw [onBank, h, readBankCode_code]

/-- A request that replaces a bank record, and is answered. -/
theorem serve_setBank {s : State} {r : Request} {rest : List Request} {name : RequestName}
    {act : List Byte → State → Reply × State} {bank : Bank} {x : BankRecord} {a : Reply}
    (h : Serves s name r rest) (e : act r.payload (s.taken rest) = (a, setBank bank x (s.taken rest))) :
    serve name act s = (s.answered r rest a).setRoute (s.route.setBank bank x) :=
  serve_changes h e rfl rfl

/-! ## Route Open -/

section Header

variable {p : List Byte}

theorem readHeader_undefined (h : 1 < field p 5 1) : readHeader p = .error .format := by
  rw [readHeader, readBool_none h]

/-- R95 test 2: a length of 0, an end class or a present anchor's class above 15. -/
theorem readHeader_range (hdefined : field p 5 1 ≤ 1)
    (h : field p 3 2 = 0 ∨ 15 < field p 8 1 ∨ field p 5 1 = 1 ∧ 15 < field p 6 1) :
    readHeader p = .error .range := by
  obtain ⟨present, hpresent, hcode⟩ := readBool_some hdefined
  rw [readHeader, hpresent]
  dsimp only
  split
  · rfl
  · rename_i hlength
    cases hclass : readFin 16 (field p 8 1) with
    | none => rfl
    | some endClass =>
      rcases h with hzero | hend | ⟨hone, hanchor⟩
      · exact absurd hzero hlength
      · rw [readFin_none hend] at hclass
        cases hclass
      · cases present with
        | false => rw [hone] at hcode; cases hcode
        | true => simp only [if_true, readFin_none hanchor]

/-- The anchor that Route Open carries (section 12.3). -/
def CarriesAnchor (p : List Byte) (anchor : Option (MarkerClass × Byte)) : Prop :=
  field p 5 1 = 0 ∧ anchor = none ∨ field p 5 1 = 1 ∧ ∃ cls : MarkerClass,
    field p 6 1 = cls.val ∧ anchor = some (cls, BitVec.ofNat 8 (field p 7 1))

theorem readHeader_ok {endClass : MarkerClass} {anchor : Option (MarkerClass × Byte)}
    (hlength : field p 3 2 ≠ 0) (hend : field p 8 1 = endClass.val) (h : CarriesAnchor p anchor) :
    readHeader p = .ok { sectionId := field p 1 2, length := field p 3 2, anchor := anchor,
                         endClass := endClass } := by
  rcases h with ⟨habsent, rfl⟩ | ⟨hpresent, cls, hcls, rfl⟩
  · rw [readHeader, habsent, show readBool 0 = some false from rfl]
    dsimp only
    rw [if_neg hlength, hend, readFin_val]
    rfl
  · rw [readHeader, hpresent, show readBool 1 = some true from rfl]
    dsimp only
    rw [if_neg hlength, hend, readFin_val, hcls]
    dsimp only
    rw [readFin_val]
    rfl

end Header

section Open

variable {p : List Byte} {s : State} {bank : Bank} (hbank : field p 0 1 = bank.code)

include hbank

theorem actRouteOpen_busy (h : (s.route.bank bank).state ≠ .free) :
    actRouteOpen p s = refuse .busy s := (onBank_bank _ hbank).trans (if_pos h)

variable (h : (s.route.bank bank).state = .free)

include h

theorem actRouteOpen_error {code : ReplyCode} (hread : readHeader p = .error code) :
    actRouteOpen p s = refuse code s := by
  refine (onBank_bank _ hbank).trans ((if_neg (not_not.2 h)).trans ?_)
  rw [hread]

theorem actRouteOpen_ok {x : SectionHeader} (hread : readHeader p = .ok x) :
    actRouteOpen p s = done (openBank bank x s) := by
  refine (onBank_bank _ hbank).trans ((if_neg (not_not.2 h)).trans ?_)
  rw [hread]

end Open

/-- Settles O42: the bank, its state, then the header as it is read. -/
theorem routeOpenOutcomes : Obligations.RouteOpenOutcomes := by
  intro s r rest h p refused
  have hrefused : ∀ {c}, actRouteOpen p (s.taken rest) = refuse c (s.taken rest) → refused c :=
    fun e => congrArg Host.Outcome.next (serve_answers h e)
  refine ⟨fun hbank => hrefused (onBank_undefined _ hbank), fun bank hbank =>
    ⟨fun hbusy => hrefused (actRouteOpen_busy hbank hbusy), fun hfree =>
      ⟨fun hpresence => hrefused
        (actRouteOpen_error (s := s.taken rest) hbank hfree (readHeader_undefined hpresence)),
        fun hpresence hrange => hrefused
          (actRouteOpen_error (s := s.taken rest) hbank hfree (readHeader_range hpresence hrange)),
        fun endClass anchor hlength hend hanchor => congrArg Host.Outcome.next (serve_setBank h
          (actRouteOpen_ok (s := s.taken rest) hbank hfree (readHeader_ok hlength hend hanchor)))⟩⟩⟩

/-! ## Route Points -/

/-- R96 test 4: a point is read exactly where its permit is defined. -/
theorem readPoint_none {p : List Byte} {off : Nat} (h : 2 < field p (off + 4) 2 / 4096) :
    readPoint p off = none := by
  rw [readPoint, readAuthority_none h]
  rfl

/-- Section 12.3: the point that stands at an offset of a payload. -/
structure PointAt (p : List Byte) (off : Nat) (x : Point) : Prop where
  offset : x.offset = field p off 2
  k : x.k = fieldS p (off + 2) 2
  c : x.c = wordC (field p (off + 4) 2)
  permit : x.permit.code = field p (off + 4) 2 / 4096

theorem readPoint_some {p : List Byte} {off : Nat} (h : field p (off + 4) 2 / 4096 ≤ 2) :
    ∃ x, readPoint p off = some x ∧ PointAt p off x := by
  obtain ⟨permit, hpermit, hcode⟩ := readAuthority_some h
  rw [readPoint, hpermit]
  exact ⟨_, rfl, rfl, rfl, rfl, hcode.symm⟩

/-- R96 test 4: one undefined permit refuses all the points. -/
theorem readPoints_none {p : List Byte} {n i off : Nat} (hi : i < n)
    (h : 2 < field p (off + 6 * i + 4) 2 / 4096) : readPoints p n off = none := by
  induction n generalizing i off with
  | zero => exact absurd hi (Nat.not_lt_zero i)
  | succ n ih =>
    rw [readPoints]
    cases i with
    | zero => rw [readPoint_none h]
    | succ i =>
      rw [ih (i := i) (off := off + 6) (Nat.lt_of_succ_lt_succ hi)
        (by rwa [show off + 6 + 6 * i + 4 = off + 6 * (i + 1) + 4 by ring])]
      cases readPoint p off <;> rfl

theorem readPoints_some {p : List Byte} {n off : Nat}
    (h : ∀ i, i < n → field p (off + 6 * i + 4) 2 / 4096 ≤ 2) :
    ∃ xs, readPoints p n off = some xs ∧ xs.length = n ∧
      ∀ i, i < n → ∃ x, xs[i]? = some x ∧ PointAt p (off + 6 * i) x := by
  induction n generalizing off with
  | zero => exact ⟨[], rfl, rfl, fun i hi => absurd hi (Nat.not_lt_zero i)⟩
  | succ n ih =>
    have hshift : ∀ i, off + 6 + 6 * i = off + 6 * (i + 1) := fun i => by ring
    obtain ⟨x, hread, hx⟩ := readPoint_some (h 0 n.succ_pos)
    obtain ⟨xs, hreads, hlength, hxs⟩ := ih (off := off + 6) fun i hi => by
      rw [hshift]
      exact h (i + 1) (Nat.succ_lt_succ hi)
    refine ⟨x :: xs, ?_, congrArg Nat.succ hlength, fun i hi => ?_⟩
    · rw [readPoints, hread, hreads]
    · cases i with
      | zero => exact ⟨x, rfl, hx⟩
      | succ i =>
        obtain ⟨y, hy, hpoint⟩ := hxs i (Nat.lt_of_succ_lt_succ hi)
        exact ⟨y, hy, hshift i ▸ hpoint⟩

/-- R96: the points written stand from the first index on, and every other point is kept. -/
theorem writePoints_places {old new : List Point} {first : Nat} (h : first ≤ old.length) :
    (writePoints old first new).length = max old.length (first + new.length) ∧
      (∀ i, i < first ∨ first + new.length ≤ i → (writePoints old first new)[i]? = old[i]?) ∧
      ∀ i, i < new.length → (writePoints old first new)[first + i]? = new[i]? := by
  have hhead : (old.take first).length = first := List.length_take_of_le h
  have hnew : (old.take first ++ new).length = first + new.length := by
    rw [List.length_append, hhead]
  unfold writePoints
  refine ⟨?_, fun i hi => ?_, fun i hi => ?_⟩
  · rw [List.length_append, hnew, List.length_drop]
    omega
  · rcases hi with hi | hi
    · rw [List.append_assoc, List.getElem?_append_left (hhead.symm ▸ hi), List.getElem?_take_of_lt hi]
    · rw [List.getElem?_append_right (hnew.trans_le hi), hnew, List.getElem?_drop,
        Nat.add_sub_cancel' hi]
  · rw [List.getElem?_append_left (by omega), List.getElem?_append_right (by omega), hhead,
      Nat.add_sub_cancel_left]

/-- R96: every C in its range. -/
theorem all_inRange_iff (xs : List Point) : xs.all Point.inRange = true ↔
    ∀ i, i < xs.length → ∀ x ∈ xs[i]?, -1024 ≤ x.c ∧ x.c ≤ 1023 := by
  simp only [List.all_eq_true, Point.inRange, Bool.and_eq_true, decide_eq_true_eq]
  refine ⟨fun h i _ x hx => h x (List.mem_of_getElem? hx), fun h x hx => ?_⟩
  obtain ⟨i, hi, rfl⟩ := List.mem_iff_getElem.1 hx
  exact h i hi _ (List.getElem?_eq_getElem hi)

section Points

variable {p : List Byte} {s : State} {bank : Bank} (hbank : field p 0 1 = bank.code)

include hbank

theorem actRoutePoints_wrongState (h : (s.route.bank bank).state ≠ .loading) :
    actRoutePoints p s = refuse .wrongState s := (onBank_bank _ hbank).trans (if_pos h)

variable (h : (s.route.bank bank).state = .loading)

include h

theorem actRoutePoints_beyond (hfirst : (s.route.bank bank).points.length < field p 1 1) :
    actRoutePoints p s = refuse .range s :=
  (onBank_bank _ hbank).trans ((if_neg (not_not.2 h)).trans (if_pos hfirst))

variable (hfirst : field p 1 1 ≤ (s.route.bank bank).points.length)

include hfirst

theorem actRoutePoints_full (hlast : 256 < field p 1 1 + field p 2 1) :
    actRoutePoints p s = refuse .range s :=
  (onBank_bank _ hbank).trans ((if_neg (not_not.2 h)).trans
    ((if_neg (Nat.not_lt.mpr hfirst)).trans (if_pos hlast)))

variable (hlast : field p 1 1 + field p 2 1 ≤ 256)

include hlast

theorem actRoutePoints_undefined (hread : readPoints p (field p 2 1) 3 = none) :
    actRoutePoints p s = refuse .format s := by
  refine (onBank_bank _ hbank).trans ((if_neg (not_not.2 h)).trans
    ((if_neg (Nat.not_lt.mpr hfirst)).trans ((if_neg (Nat.not_lt.mpr hlast)).trans ?_)))
  rw [hread]

theorem actRoutePoints_read {xs : List Point} (hread : readPoints p (field p 2 1) 3 = some xs) :
    actRoutePoints p s = if xs.all Point.inRange then
      done (setBank bank { s.route.bank bank with
        points := writePoints (s.route.bank bank).points (field p 1 1) xs } s)
      else refuse .range s := by
  refine (onBank_bank _ hbank).trans ((if_neg (not_not.2 h)).trans
    ((if_neg (Nat.not_lt.mpr hfirst)).trans ((if_neg (Nat.not_lt.mpr hlast)).trans ?_)))
  rw [hread]

end Points

/-- Settles O43: the bank and the indexes, then the points as they are read, and the list written. -/
theorem routePointsOutcomes : Obligations.RoutePointsOutcomes := by
  intro s r rest h p refused first count word cant
  have hrefused : ∀ {c}, actRoutePoints p (s.taken rest) = refuse c (s.taken rest) → refused c :=
    fun e => congrArg Host.Outcome.next (serve_answers h e)
  refine ⟨fun hbank => hrefused (onBank_undefined _ hbank), fun bank hbank => ?_⟩
  intro b
  refine ⟨fun hstate => hrefused (actRoutePoints_wrongState hbank hstate),
    fun hstate hfirst => hrefused (actRoutePoints_beyond hbank hstate hfirst),
    fun hstate hfirst hlast => hrefused (actRoutePoints_full hbank hstate hfirst hlast),
    fun hstate hfirst hlast => ⟨fun ⟨i, hi, hpermit⟩ => hrefused
      (actRoutePoints_undefined hbank hstate hfirst hlast (readPoints_none hi hpermit)),
      fun hpermits ⟨i, hi, hc⟩ => ?_, fun hpoints => ?_⟩⟩
  · obtain ⟨xs, hread, hlength, hxs⟩ := readPoints_some hpermits
    obtain ⟨x, hx, hpoint⟩ := hxs i hi
    have hcant : x.c = cant i := hpoint.c
    have hact := actRoutePoints_read (s := s.taken rest) hbank hstate hfirst hlast hread
    refine hrefused (hact.trans (if_neg fun hall => ?_))
    have hmem := (all_inRange_iff xs).1 hall i (hlength.symm ▸ hi) x hx
    omega
  · obtain ⟨xs, hread, hlength, hxs⟩ := readPoints_some fun i hi => (hpoints i hi).1
    have hall : xs.all Point.inRange = true := (all_inRange_iff xs).2 fun i hi x hx => by
      obtain ⟨y, hy, hpoint⟩ := hxs i (hlength ▸ hi)
      obtain rfl : y = x := Option.some.inj (hy.symm.trans hx)
      have hcant : y.c = cant i := hpoint.c
      rw [hcant]
      exact (hpoints i (hlength ▸ hi)).2
    have hact := (actRoutePoints_read (s := s.taken rest) hbank hstate hfirst hlast hread).trans
      (if_pos hall)
    obtain ⟨hwritten, hkept, hplaced⟩ := writePoints_places (new := xs) hfirst
    rw [hlength] at hwritten hkept hplaced
    refine ⟨_, congrArg Host.Outcome.next (serve_setBank h hact), hwritten, hkept, fun i hi => ?_⟩
    obtain ⟨x, hx, hpoint⟩ := hxs i hi
    exact ⟨x, (hplaced i hi).trans hx, hpoint.offset, hpoint.k, hpoint.c, hpoint.permit⟩

/-! ## Route Close -/

theorem rising_iff (xs : List Point) : rising xs = true ↔
    ∀ (i : Nat), ∀ x ∈ xs[i]?, ∀ y ∈ xs[i + 1]?, x.offset < y.offset := by
  induction xs with
  | nil => simp [rising]
  | cons x xs ih =>
    cases xs with
    | nil => simp [rising]
    | cons y rest =>
      rw [rising_cons_cons, ih]
      refine ⟨fun ⟨hxy, hrest⟩ i => ?_, fun h => ⟨h 0 x rfl y rfl, fun i => h (i + 1)⟩⟩
      cases i with
      | zero => rintro _ ⟨⟩ _ ⟨⟩; exact hxy
      | succ i => exact hrest i

/-- R97 test 2: the point checks, point by point. -/
theorem pointsSound_iff (xs : List Point) (length : Nat) : pointsSound xs length = true ↔
    xs ≠ [] ∧ (∀ x ∈ xs[0]?, x.offset = 0) ∧
      (∀ (i : Nat), ∀ x ∈ xs[i]?, ∀ y ∈ xs[i + 1]?, x.offset < y.offset) ∧
      ∀ x ∈ xs[xs.length - 1]?, x.offset < length := by
  rw [pointsSound, Bool.and_eq_true, rising_iff, ← List.getLast?_eq_getElem?, ← List.head?_eq_getElem?]
  cases hhead : xs.head? with
  | none => simp [List.head?_eq_none_iff.1 hhead]
  | some x =>
    cases hlast : xs.getLast? with
    | none => simp [List.getLast?_eq_none_iff.1 hlast] at hhead
    | some y =>
      have hne : xs ≠ [] := fun e => by simp [e] at hhead
      simp only [Option.mem_some_iff, forall_eq', Bool.and_eq_true, decide_eq_true_eq, ne_eq, hne,
        not_false_eq_true, true_and]
      exact ⟨fun ⟨⟨hfirst, hlast⟩, hrise⟩ => ⟨hfirst, hrise, hlast⟩,
        fun ⟨hfirst, hrise, hlast⟩ => ⟨⟨hfirst, hlast⟩, hrise⟩⟩

section Close

variable {p : List Byte} {s : State} {bank : Bank} (hbank : field p 0 1 = bank.code)

include hbank

theorem actRouteClose_wrongState (h : (s.route.bank bank).state ≠ .loading) :
    actRouteClose p s = refuse .wrongState s := (onBank_bank _ hbank).trans (if_pos h)

variable (h : (s.route.bank bank).state = .loading)

include h

theorem actRouteClose_unsound
    (hpoints : ¬pointsSound (s.route.bank bank).points (s.route.bank bank).length = true) :
    actRouteClose p s = refuse .format s :=
  (onBank_bank _ hbank).trans ((if_neg (not_not.2 h)).trans (if_pos (by simpa using hpoints)))

/-- R97 test 3: the check as the request carries it, in two bytes. -/
theorem actRouteClose_check
    (hpoints : pointsSound (s.route.bank bank).points (s.route.bank bank).length = true) :
    actRouteClose p s =
      if (sectionCheck (s.route.bank bank).points).toNat ≠ field p 1 2 then
        (⟨.checkFailed, be 2 (sectionCheck (s.route.bank bank).points).toNat⟩, s)
      else done (setBankState bank .ready s) := by
  have hfield : field p 1 2 < 2 ^ 16 := field_lt p 1 2
  have hcheck : sectionCheck (s.route.bank bank).points = BitVec.ofNat 16 (field p 1 2) ↔
      (sectionCheck (s.route.bank bank).points).toNat = field p 1 2 := by
    rw [← BitVec.toNat_inj, BitVec.toNat_ofNat, Nat.mod_eq_of_lt hfield]
  exact (onBank_bank _ hbank).trans ((if_neg (not_not.2 h)).trans
    ((if_neg (by simpa using hpoints)).trans (if_congr (not_congr hcheck) rfl rfl)))

end Close

/-- Settles O44: the bank and its state, then the point checks and the section check. -/
theorem routeCloseOutcomes : Obligations.RouteCloseOutcomes := by
  intro s r rest h p refused
  have hrefused : ∀ {a}, actRouteClose p (s.taken rest) = (a, s.taken rest) → refused a :=
    fun e => congrArg Host.Outcome.next (serve_answers h e)
  refine ⟨fun hbank => hrefused (onBank_undefined _ hbank), fun bank hbank => ?_⟩
  intro b sound check
  have hsound : sound ↔ pointsSound b.points b.length = true := (pointsSound_iff _ _).symm
  have hchecked := fun hstate hpoints =>
    actRouteClose_check (s := s.taken rest) hbank hstate (hsound.1 hpoints)
  refine ⟨fun hstate => hrefused (actRouteClose_wrongState hbank hstate),
    fun hstate hpoints => hrefused
      (actRouteClose_unsound hbank hstate (mt hsound.2 hpoints)),
    fun hstate hpoints hcheck => hrefused ((hchecked hstate hpoints).trans (if_pos hcheck)),
    fun hstate hpoints hcheck => congrArg Host.Outcome.next
      (serve_setBank h ((hchecked hstate hpoints).trans (if_neg (not_not.2 hcheck))))⟩

/-! ## Route Discard -/

section Discard

variable {p : List Byte} {s : State} {bank : Bank} (hbank : field p 0 1 = bank.code)

include hbank

theorem actRouteDiscard_frees
    (h : (s.route.bank bank).state = .loading ∨ (s.route.bank bank).state = .ready) :
    actRouteDiscard p s = done (setBankState bank .free s) := by
  refine (onBank_bank _ hbank).trans ?_
  rcases h with h | h <;> rw [h]

theorem actRouteDiscard_busy
    (h : (s.route.bank bank).state = .inUse ∨ (s.route.bank bank).state = .draining) :
    actRouteDiscard p s = refuse .busy s := by
  refine (onBank_bank _ hbank).trans ?_
  rcases h with h | h <;> rw [h]

theorem actRouteDiscard_nothing (h : (s.route.bank bank).state = .free) :
    actRouteDiscard p s = refuse .nothingPending s := by
  refine (onBank_bank _ hbank).trans ?_
  rw [h]

end Discard

/-- Settles O45: the bank, and then its state. -/
theorem routeDiscardOutcomes : Obligations.RouteDiscardOutcomes := by
  intro s r rest h refused
  have hrefused : ∀ {c}, actRouteDiscard r.payload (s.taken rest) = refuse c (s.taken rest) →
      refused c := fun e => congrArg Host.Outcome.next (serve_answers h e)
  refine ⟨fun hbank => hrefused (onBank_undefined _ hbank), fun bank hbank => ?_⟩
  intro b
  exact ⟨fun hstate => congrArg Host.Outcome.next
      (serve_setBank h (actRouteDiscard_frees (s := s.taken rest) hbank hstate)),
    fun hstate => hrefused (actRouteDiscard_busy hbank hstate),
    fun hstate => hrefused (actRouteDiscard_nothing hbank hstate)⟩

end Sys2Proof.Machine
end

section
/-! Nearest rounding (R113), and the limits of one car's computation (R120 to R126): the blend, the least
cap, the clamp and the rate step, each said of its own operation first. -/

set_option Elab.async false

namespace Sys2Proof.Machine

/-! ## Nearest rounding -/

theorem nearest_neg (a : Int) (b : Nat) : nearest (-a) b = -nearest a b := by
  simp [nearest, Int.sign_neg]

/-- Of a number that is not negative: the floor that R113 names lies at most half above and less than
half below it. -/
theorem nearest_natCast_bounds {b : Nat} (hb : 0 < b) (a : Nat) :
    2 * ((b : Int) * nearest a b) ≤ 2 * a + b ∧ 2 * (a : Int) < 2 * ((b : Int) * nearest a b) + b := by
  have hfloor : nearest (a : Int) b = ((2 * a + b) / (2 * b) : Nat) := by
    rcases Nat.eq_zero_or_pos a with rfl | ha
    · have hzero : b / (2 * b) = 0 := Nat.div_eq_of_lt (by omega)
      simp [nearest, hzero]
    · rw [nearest, Int.natAbs_natCast, Int.sign_eq_one_of_pos (by omega), one_mul]
  have hdiv := Nat.div_add_mod (2 * a + b) (2 * b)
  have hmod := Nat.mod_lt (2 * a + b) (show 0 < 2 * b by omega)
  rw [hfloor]
  generalize (2 * a + b) / (2 * b) = q at hdiv ⊢
  rw [Nat.mul_assoc] at hdiv
  rw [← Int.natCast_mul]
  omega

/-- R113: at a distance of at most half, and where two are equally near the one farther from zero. -/
theorem nearest_error {b : Nat} (hb : 0 < b) (a : Int) :
    2 * ((b : Int) * nearest a b - a).natAbs ≤ b ∧
    (2 * ((b : Int) * nearest a b - a).natAbs = b → a.natAbs ≤ b * (nearest a b).natAbs) := by
  have habs : b * (nearest a b).natAbs = ((b : Int) * nearest a b).natAbs := by
    rw [Int.natAbs_mul, Int.natAbs_natCast]
  rw [habs]
  obtain ⟨n, rfl | rfl⟩ := a.eq_nat_or_neg
  · have hbounds := nearest_natCast_bounds hb n
    omega
  · have hbounds := nearest_natCast_bounds hb n
    rw [nearest_neg, Int.mul_neg]
    omega

/-- R113: an integer nearer than half is the nearest. -/
theorem nearest_unique {b : Nat} {a q : Int} (hb : 0 < b)
    (hq : 2 * ((b : Int) * q - a).natAbs < b) : nearest a b = q := by
  obtain ⟨herror, -⟩ := nearest_error hb a
  have hdiff : (b : Int) * (nearest a b - q) = b * nearest a b - b * q := by ring
  have hlt : ((b : Int) * (nearest a b - q)).natAbs < b := by omega
  rw [Int.natAbs_mul, Int.natAbs_natCast] at hlt
  have hzero : (nearest a b - q).natAbs < 1 := Nat.lt_of_mul_lt_mul_left (a := b) (by omega)
  omega

/-- Settles O25, by the floor that R113 names, on either side of zero. -/
theorem nearestRounding : Obligations.NearestRounding := by
  intro a b hb
  obtain ⟨herror, htie⟩ := nearest_error hb a
  exact ⟨herror, htie, fun _ => nearest_unique hb⟩

/-! ## The eight steps -/

/-- R122: the blend of two values lies between them. -/
theorem blend_between {w : Nat} (hw : w ≤ 256) (m f : Int) :
    min m f ≤ blend w (some m) (some f) ∧ blend w (some m) (some f) ≤ max m f := by
  obtain ⟨herror, -⟩ := nearest_error (b := 256) (by omega) ((w : Int) * f + (256 - w) * m)
  have hw' : (0 : Int) ≤ 256 - w := by omega
  have hlow : 256 * min m f ≤ (w : Int) * f + (256 - w) * m := by
    calc 256 * min m f = (w : Int) * min m f + (256 - w) * min m f := by ring
      _ ≤ (w : Int) * f + (256 - w) * m := add_le_add
        (mul_le_mul_of_nonneg_left (min_le_right m f) (by omega))
        (mul_le_mul_of_nonneg_left (min_le_left m f) hw')
  have hhigh : (w : Int) * f + (256 - w) * m ≤ 256 * max m f := by
    calc (w : Int) * f + (256 - w) * m ≤ (w : Int) * max m f + (256 - w) * max m f := add_le_add
          (mul_le_mul_of_nonneg_left (le_max_right m f) (by omega))
          (mul_le_mul_of_nonneg_left (le_max_left m f) hw')
      _ = 256 * max m f := by ring
  simp only [blend]
  omega

/-- R123: caps applied one after another leave the least code. -/
theorem foldl_cap_code (caps : List Authority) (x : Authority) :
    (caps.foldl Authority.cap x).code = (caps.map Authority.code).foldl min x.code := by
  induction caps generalizing x with
  | nil => rfl
  | cons y caps ih => rw [List.foldl_cons, ih, Authority.cap_code]; rfl

/-- R123: the cap of a quality, as the lesser of a cap for SINGLE and HELD and one for VOID. -/
theorem qualityCap_code (q : Quality) (known : Bool) :
    (qualityCap q known).code =
      min (if q = .single ∨ q = .held then 1 else 2)
        (if q = .void then (if known then 1 else 0) else 2) := by
  cases q <;> cases known <;> rfl

theorem capIf_none_code (cond : Bool) : (capIf cond .none).code = if cond then 0 else 2 := by
  cases cond <;> rfl

theorem capIf_limited_code (cond : Bool) : (capIf cond .limited).code = if cond then 1 else 2 := by
  cases cond <;> rfl

/-- R123: the effective authority is the least of the entry authority and the caps. -/
theorem effectiveAuthority_code (s : State) (c : Car) (q : Quality) (look : Option Looked) :
    (effectiveAuthority s c q look).code =
      List.foldl min (s.regime c).authority.code
        [ if q = .single ∨ q = .held then 1 else 2,
          if q = .void then (if look.isSome then 1 else 0) else 2,
          (match look with
            | some l => l.permit.code
            | none => 2),
          if s.demand.gateOpen then 2 else 0,
          if s.odo.state = .tracking then 2 else 0,
          if s.odo.uncertain then 1 else 2,
          if s.marker.loss then 1 else 2,
          if (s.channel c).state = .centring then 0 else 2,
          if s.executor.opState = .standby then 0 else 2 ] := by
  have hfull : Authority.full.code = 2 := rfl
  unfold effectiveAuthority
  rw [foldl_cap_code]
  cases look <;>
    simp only [List.map_cons, List.map_nil, List.foldl_cons, List.foldl_nil, qualityCap_code, hfull,
      capIf_none_code, capIf_limited_code, min_assoc, decide_eq_true_eq, ne_eq, ite_not,
      Bool.not_eq_true', ← Bool.not_eq_true]

/-- R124, R125: the clamped angle lies within 1000 and within its limit. -/
theorem clampAngle_within (estimate : Int) (gain limit : Nat) :
    (clampAngle (rawAngle estimate gain) limit).natAbs ≤ limit ∧
    (clampAngle (rawAngle estimate gain) limit).natAbs ≤ 1000 := by
  obtain ⟨hlow, hhigh⟩ := bound_mem (lo := -1000) (hi := 1000) (by omega) (nearest (estimate * gain) 256)
  rw [clampAngle, bound_eq (by omega)]
  simp only [rawAngle]
  omega

/-- R126: the new angle stands between the previous and the clamped one, a rate step from the previous or
at the clamped one. -/
theorem rateAngle_within (previous clamped : Int) (step : Nat) :
    (rateAngle previous clamped step - previous).natAbs ≤ step ∧
    min previous clamped ≤ rateAngle previous clamped step ∧
    rateAngle previous clamped step ≤ max previous clamped ∧
    ((clamped - previous).natAbs ≤ step → rateAngle previous clamped step = clamped) ∧
    (step < (clamped - previous).natAbs →
      (rateAngle previous clamped step - previous).natAbs = step) := by
  rw [rateAngle, bound_eq (by omega)]
  omega

theorem computation_clamped (s : State) (c : Car) :
    (computation s c).clamped =
      clampAngle (rawAngle (computation s c).estimate (s.carProfile c).gain)
        (limitOf (s.carProfile c) (computation s c).authority) := by
  simp only [computation]

/-- R123, R125: the authority of a car's computation limits its clamped angle. -/
theorem computation_clamped_le (s : State) (c : Car) :
    (computation s c).clamped.natAbs ≤ limitOf (s.carProfile c) (computation s c).authority ∧
    (computation s c).clamped.natAbs ≤ 1000 := by
  rw [computation_clamped]
  exact clampAngle_within _ _ _

/-- R126: the rate step of a car's computation. -/
theorem computation_angle (s : State) (c : Car) :
    (computation s c).angle =
      rateAngle (s.channel c).thetaPrev (computation s c).clamped (s.carProfile c).rateStep := by
  simp only [computation]

/-- R121: the feedforward as the statement writes it. -/
theorem feedforward_eq (v : Nat) (look : Looked) :
    feedforward v look =
      max (-2048) (min 2047 (nearest ((v : Int) * v * look.k) 1048576 - look.c)) :=
  bound_eq (by omega) _

/-- R124: the raw angle as the statement writes it. -/
theorem rawAngle_eq (estimate : Int) (gain : Nat) :
    rawAngle estimate gain = max (-1000) (min 1000 (nearest (estimate * gain) 256)) :=
  bound_eq (by omega) _

/-- Settles O26: the caps by their least code, the blend by its weights, and the clamp and the rate step by
their bounds. -/
theorem computationWithinLimits : Obligations.ComputationWithinLimits := by
  refine ⟨effectiveAuthority_code, fun w m f hw => ?_, fun s c => ?_⟩
  · obtain ⟨hlow, hhigh⟩ := blend_between hw m f
    exact ⟨rfl, hlow, hhigh, rfl, rfl, rfl⟩
  · intro r p previous newest tap record look measure predict limit
    have hlimitOf : limitOf p r.authority = limit := by
      simp only [limit]
      cases r.authority <;> rfl
    obtain ⟨hlimit, hthousand⟩ := computation_clamped_le s c
    obtain ⟨hstep, hlow, hhigh, hnear, hfar⟩ := rateAngle_within previous r.clamped p.rateStep
    have hangle : rateAngle previous r.clamped p.rateStep = r.angle := (computation_angle s c).symm
    rw [hangle] at hstep hlow hhigh hnear hfar
    rw [← hlimitOf]
    refine ⟨rfl, rfl, rfl, ?_, ?_, hlimit, hthousand, hstep, hlow, hhigh, hnear, hfar, fun hnone => ?_⟩
    · simp only [predict, ← feedforward_eq]
      rfl
    · rw [← rawAngle_eq]
      exact bound_eq (by omega) _
    · have hzero : r.clamped = 0 := by
        rw [hnone] at hlimit
        simpa [limitOf] using hlimit
      rw [hzero] at hlow hhigh
      exact ⟨hzero, by omega⟩

end Sys2Proof.Machine
end

section
/-! The cars after every step (R115, R130, R148 to R154): each car's channel record stays within what the
operating state and its profile allow. A change of a record brings the car to rest at angle 0, keeps it
moving, or leaves its state and angle as they were. -/

set_option Elab.async false

namespace Sys2Proof.Machine

/-! ## One channel record -/

/-- R115, R130, R148, R153, R154: a channel record within an operating state and a profile. -/
structure CarFit (op : OpState) (p : CarProfile) (x : CarChannel) : Prop where
  off : x.state = .off ↔ p.enabled = false
  rest : x.state.moving = false → x.thetaPrev = 0
  safe : op = .safe → x.state.moving = false
  following : x.state = .following → op = .active
  centring : x.state = .centring → op = .standby
  held : x.parkHeld = true → x.state = .parked ∧ op = .active
  limit : x.thetaPrev.natAbs ≤ p.fullLimit

section Records

variable {op op' : OpState} {p p' : CarProfile} {x y : CarChannel}

/-- A car at rest, at angle 0 and not held, is within every operating state. -/
theorem CarFit.of_still (hoff : y.state = .off ↔ p.enabled = false) (hstill : y.state.moving = false)
    (hangle : y.thetaPrev = 0) (hheld : y.parkHeld = false) : CarFit op p y where
  off := hoff
  rest := fun _ => hangle
  safe := fun _ => hstill
  following := fun h => by simp [h, ChanState.moving] at hstill
  centring := fun h => by simp [h, ChanState.moving] at hstill
  held := by simp [hheld]
  limit := by simp [hangle]

/-- A car that moves is enabled, not held, outside SAFE, and in the state that its operating state gives. -/
theorem CarFit.of_moving (hon : p.enabled = true) (hmoving : y.state.moving = true) (hop : op ≠ .safe)
    (hfollowing : y.state = .following → op = .active)
    (hcentring : y.state = .centring → op = .standby) (hheld : y.parkHeld = false)
    (hlimit : y.thetaPrev.natAbs ≤ p.fullLimit) : CarFit op p y where
  off := by
    refine ⟨fun h => ?_, fun h => ?_⟩
    · simp [h, ChanState.moving] at hmoving
    · simp [hon] at h
  rest := by simp [hmoving]
  safe := fun h => absurd h hop
  following := hfollowing
  centring := hcentring
  held := by simp [hheld]
  limit := hlimit

/-- A record of the same state, angle and hold mark. -/
theorem CarFit.same (h : CarFit op p x) (hstate : y.state = x.state)
    (hangle : y.thetaPrev = x.thetaPrev) (hheld : y.parkHeld = x.parkHeld) : CarFit op p y where
  off := by rw [hstate]; exact h.off
  rest := by rw [hstate, hangle]; exact h.rest
  safe := by rw [hstate]; exact h.safe
  following := by rw [hstate]; exact h.following
  centring := by rw [hstate]; exact h.centring
  held := by rw [hstate, hheld]; exact h.held
  limit := by rw [hangle]; exact h.limit

theorem CarFit.enabled (h : CarFit op p x) (hon : x.state ≠ .off) : p.enabled = true := by
  rw [← Bool.not_eq_false]
  exact fun hoff => hon (h.off.2 hoff)

theorem CarFit.not_held (h : CarFit op p x) (hstate : x.state ≠ .parked) : x.parkHeld = false := by
  rw [← Bool.not_eq_true]
  exact fun hheld => hstate (h.held hheld).1

theorem CarFit.not_safe (h : CarFit op p x) (hmoving : x.state.moving = true) : op ≠ .safe :=
  fun hop => by simp [h.safe hop] at hmoving

/-- A car that was not OFF comes to rest. -/
theorem CarFit.stilled (h : CarFit op' p x) (hon : x.state ≠ .off)
    (hstate : y.state = .parked ∨ y.state = .failed) (hangle : y.thetaPrev = 0)
    (hheld : y.parkHeld = false) : CarFit op p y := by
  have hoff : y.state ≠ .off ∧ y.state.moving = false := by
    rcases hstate with e | e <;> simp [e, ChanState.moving]
  exact .of_still (by simp [hoff.1, h.enabled hon]) hoff.2 hangle hheld

/-- A moving car goes on moving with its angle. -/
theorem CarFit.moves_on (h : CarFit op' p x) (hmoving : x.state.moving = true)
    (hy : y.state.moving = true) (hop : op ≠ .safe) (hfollowing : y.state = .following → op = .active)
    (hcentring : y.state = .centring → op = .standby) (hheld : y.parkHeld = false)
    (hangle : y.thetaPrev = x.thetaPrev) : CarFit op p y :=
  .of_moving (h.enabled fun e => by simp [e, ChanState.moving] at hmoving) hy hop hfollowing hcentring
    hheld (hangle ▸ h.limit)

/-- R153: a PARKED car starts from angle 0 in ACTIVE. -/
theorem CarFit.starts (h : CarFit op' p x) (hparked : x.state = .parked) (hstate : y.state = .following)
    (hangle : y.thetaPrev = 0) (hheld : y.parkHeld = false) : CarFit .active p y :=
  .of_moving (h.enabled (by simp [hparked])) (by simp [hstate, ChanState.moving]) nofun (fun _ => rfl)
    (by simp [hstate]) hheld (by simp [hangle])

/-- R115: a moving car takes a new angle. -/
theorem CarFit.turns (h : CarFit op p x) (hmoving : x.state.moving = true) (hstate : y.state = x.state)
    (hheld : y.parkHeld = x.parkHeld) (hangle : y.thetaPrev.natAbs ≤ p.fullLimit) : CarFit op p y where
  off := by rw [hstate]; exact h.off
  rest := by simp [hstate, hmoving]
  safe := by rw [hstate]; exact h.safe
  following := by rw [hstate]; exact h.following
  centring := by rw [hstate]; exact h.centring
  held := by rw [hstate, hheld]; exact h.held
  limit := hangle

/-- R139: the profile of a car at rest is replaced by one that leaves it enabled or disabled. -/
theorem CarFit.rewritten (h : CarFit op p x) (hstill : x.state.moving = false)
    (hoff : x.state = .off ↔ p'.enabled = false) : CarFit op p' x where
  off := hoff
  rest := h.rest
  safe := h.safe
  following := h.following
  centring := h.centring
  held := h.held
  limit := by simp [h.rest hstill]

end Records

/-! ## All cars -/

/-- `CarsSound`, car by car. -/
def CarsFit (s : State) : Prop :=
  ∀ c, CarFit s.executor.opState (s.carProfile c) (s.channel c)

theorem carsSound_iff (s : State) : CarsSound s ↔ CarsFit s := by
  constructor
  · intro h c
    obtain ⟨hoff, hrest, hsafe, hfollowing, hcentring, hheld, hlimit⟩ := h c
    exact ⟨hoff, hrest, hsafe, hfollowing, hcentring, hheld, hlimit⟩
  · intro h c
    obtain ⟨hoff, hrest, hsafe, hfollowing, hcentring, hheld, hlimit⟩ := h c
    exact ⟨hoff, hrest, hsafe, hfollowing, hcentring, hheld, hlimit⟩

/-- The operating state and the car profiles of two states are the same. -/
structure SameDuty (s t : State) : Prop where
  opState : t.executor.opState = s.executor.opState
  profiles : t.demand.profiles = s.demand.profiles

theorem SameDuty.of_frame {fs : List Field} {s t : State} (k : SameBut fs s t)
    (hf : Field.executor ∉ fs ∧ Field.demand ∉ fs := by decide) : SameDuty s t where
  opState := congrArg Executor.opState (k .executor hf.1)
  profiles := congrArg Demand.profiles (k .demand hf.2)

/-- What changes one car's channel record alone, to one within the operating state and its profile. -/
theorem CarsFit.of_car {s t : State} {c : Car} (h : CarsFit s) (hduty : SameDuty s t)
    (hown : CarFit s.executor.opState (s.carProfile c) (t.channel c))
    (hother : ∀ d, d ≠ c → t.channel d = s.channel d) : CarsFit t := by
  intro d
  have hprofile : t.carProfile d = s.carProfile d := by simp only [State.carProfile, hduty.profiles]
  rw [hduty.opState, hprofile]
  by_cases hd : d = c
  · subst hd
    exact hown
  · rw [hother d hd]
    exact h d

/-- What changes no channel record. -/
theorem CarsFit.of_channels {s t : State} (h : CarsFit s) (hduty : SameDuty s t)
    (hchannel : ∀ d, t.channel d = s.channel d) : CarsFit t :=
  h.of_car (c := 0) hduty (by rw [hchannel]; exact h 0) fun d _ => hchannel d

theorem channel_of_cars {s t : State} (h : t.cars = s.cars) (d : Car) : t.channel d = s.channel d := by
  simp only [State.channel, h]

/-- What reaches neither cars nor profiles nor the operating state. -/
theorem CarsFit.of_frame {fs : List Field} {s t : State} (h : CarsFit s) (k : SameBut fs s t)
    (hf : (Field.executor ∉ fs ∧ Field.demand ∉ fs) ∧ Field.cars ∉ fs := by decide) : CarsFit t :=
  h.of_channels (.of_frame k hf.1) (channel_of_cars (k .cars hf.2))

/-- The demand engine reached, but for its profiles. -/
theorem CarsFit.of_profiles {fs : List Field} {s t : State} (h : CarsFit s) (k : SameBut fs s t)
    (hp : SameProfiles s t) (hf : Field.executor ∉ fs ∧ Field.cars ∉ fs := by decide) : CarsFit t :=
  h.of_channels ⟨congrArg Executor.opState (k .executor hf.1), hp.2⟩ (channel_of_cars (k .cars hf.2))

theorem CarsFit.of_traffic {s t : State} (h : CarsFit s) (k : Traffic s t) : CarsFit t := by
  have hdemand : t.demand = s.demand := k.frame .demand (by decide)
  exact h.of_channels ⟨k.opState, congrArg Demand.profiles hdemand⟩
    (channel_of_cars (k.frame .cars (by decide)))

section Cars

variable {s : State} {c : Car}

theorem CarsFit.setChannel {x : CarChannel} (h : CarsFit s)
    (hx : CarFit s.executor.opState (s.carProfile c) x) : CarsFit (setChannel c x s) :=
  h.of_car (.of_frame (setChannel_frame c x s)) (by rw [setChannel_same]; exact hx)
    fun _ => setChannel_other x s

theorem CarsFit.carReport (h : CarsFit s) (before : ChanState) (cause : CarCause) :
    CarsFit (carReport c before cause s) := h.of_frame (carReport_frame c before cause s)

/-- R115, R145: a car that was not OFF enters PARKED or FAILED. -/
theorem CarsFit.enterStill {st : ChanState} (h : CarsFit s) (hon : (s.channel c).state ≠ .off)
    (hst : st = .parked ∨ st = .failed) : CarsFit (enterStill c st s) := by
  refine h.of_car (c := c) (.of_frame (enterStill_frame c st s)) ?_ fun _ => enterStill_other st s
  rw [enterStill_channel]
  exact (h c).stilled hon hst rfl rfl

/-! ## Unit status -/

theorem CarsFit.recordStatus (h : CarsFit s) (u : UnitState) (actual : Int) (echo : Word16) :
    CarsFit (recordStatus c u actual echo s) := h.setChannel ((h c).same rfl rfl rfl)

/-- R134. -/
theorem CarsFit.trackingTest (h : CarsFit s) (hon : (s.channel c).state ≠ .off) (actual : Int) :
    CarsFit (trackingTest c actual s) := by
  unfold Machine.trackingTest
  dsimp only
  split
  · split
    · exact (h.enterStill hon (.inr rfl)).carReport _ _
    · exact h.setChannel ((h c).same rfl rfl rfl)
  · exact h.setChannel ((h c).same rfl rfl rfl)

/-- R133: a HOLD car moves again as its operating state says. -/
theorem CarsFit.resumes (h : CarsFit s) (hhold : (s.channel c).state = .hold) :
    (s.executor.opState = .active → CarsFit (enterFollowing c s)) ∧
    (s.executor.opState = .standby → CarsFit (enterKeeping c .centring s)) := by
  have hmoving : (s.channel c).state.moving = true := by rw [hhold]; rfl
  constructor
  · intro hop
    exact h.setChannel ((h c).moves_on hmoving rfl (by simp [hop]) (fun _ => hop) nofun rfl rfl)
  · intro hop
    exact h.setChannel ((h c).moves_on hmoving rfl (by simp [hop]) nofun (fun _ => hop)
      ((h c).not_held (by simp [hhold])) rfl)

/-- R133, R135: a FOLLOWING or CENTRING car enters HOLD. -/
theorem CarsFit.holds (h : CarsFit s)
    (hstate : (s.channel c).state = .following ∨ (s.channel c).state = .centring) :
    CarsFit (enterKeeping c .hold s) := by
  have hmoving : (s.channel c).state.moving = true ∧ (s.channel c).state ≠ .parked := by
    rcases hstate with e | e <;> simp [e, ChanState.moving]
  exact h.setChannel ((h c).moves_on hmoving.1 rfl ((h c).not_safe hmoving.1) nofun nofun
    ((h c).not_held hmoving.2) rfl)

theorem CarsFit.unitStateAct (h : CarsFit s) (u : UnitState) : CarsFit (unitStateAct c u s) := by
  cases u with
  | ready =>
    simp only [Machine.unitStateAct]
    split
    case isTrue hhold =>
      obtain ⟨hactive, hstandby⟩ := h.resumes hhold
      split
      · rename_i hop
        exact (hactive hop).carReport _ _
      · rename_i hop
        exact (hstandby hop).carReport _ _
      · exact h
    case isFalse => exact h
  | busy =>
    simp only [Machine.unitStateAct]
    split
    case isTrue hstate => exact (h.holds hstate).carReport _ _
    case isFalse => exact h
  | fault =>
    simp only [Machine.unitStateAct]
    split
    case isTrue => exact h
    case isFalse hon => exact (h.enterStill (fun e => hon (.inl e)) (.inr rfl)).carReport _ _

theorem CarsFit.takeStatus (h : CarsFit s) (u : UnitState) (actual : Int) (echo : Word16) :
    CarsFit (takeStatus c u actual echo s) := by
  have hrecord := h.recordStatus (c := c) u actual echo
  unfold Machine.takeStatus
  dsimp only
  split
  · rename_i hfollowing
    have htracking := hrecord.trackingTest (c := c) (by simp [hfollowing]) actual
    split
    · exact htracking
    · exact htracking.unitStateAct u
  · exact hrecord.unitStateAct u

theorem CarsFit.handleUnitStatus (h : CarsFit s) (p : List Byte) : CarsFit (handleUnitStatus p s) := by
  unfold Machine.handleUnitStatus
  split
  · exact h
  · split
    · refine forCars_keeps (p := CarsFit) (fun c t ht => ?_) s h
      split
      · exact ht.takeStatus _ _ _
      · exact ht
    · exact h

/-! ## The expiry of the command timer -/

theorem CarsFit.ageCar (h : CarsFit s) : CarsFit (ageCar c s) := by
  unfold Machine.ageCar
  dsimp only
  split
  · exact h
  · exact h.setChannel ((h c).same rfl rfl rfl)

/-- R135. -/
theorem CarsFit.ageTest (h : CarsFit s) : CarsFit (ageTest c s) := by
  unfold Machine.ageTest
  dsimp only
  split
  · rename_i htilting
    split
    · have hon : (s.channel c).state ≠ .off := by
        rcases htilting.1 with e | e <;> simp [e]
      exact (h.enterStill hon (.inr rfl)).carReport _ _
    · exact (h.holds htilting.1).carReport _ _
  · split
    · rename_i hhold
      exact (h.enterStill (by simp [hhold.1]) (.inr rfl)).carReport _ _
    · exact h

theorem CarsFit.ageAll (h : CarsFit s) : CarsFit (ageAll s) :=
  forCars_keeps (p := CarsFit) (fun _ _ ht => ht.ageTest) _
    (forCars_keeps (p := CarsFit) (fun _ _ ht => ht.ageCar) s h)

/-- R145: a held car starts once its unit's PARK entry has been handed. -/
theorem CarsFit.parkSent (h : CarsFit s) : CarsFit (parkSent c s) := by
  unfold Machine.parkSent
  dsimp only
  split
  · rename_i hsent
    obtain ⟨hparked, -, -, hop, -⟩ := hsent
    refine (h.setChannel ?_).carReport _ _
    rw [hop]
    exact (h c).starts hparked rfl rfl rfl
  · exact h

theorem CarsFit.buildCommand (h : CarsFit s) : CarsFit (buildCommand s) :=
  forCars_keeps (p := CarsFit) (fun _ _ ht => ht.parkSent) _
    (h.of_channels (.of_frame (handFrame_frame s)) fun _ => rfl)

theorem CarProfile.limits_ordered {x : CarProfile} {len : Nat} (h : x.inRange len = true) :
    x.limitedLimit ≤ x.fullLimit := by
  simp only [CarProfile.inRange, Bool.and_eq_true, decide_eq_true_eq] at h
  omega

theorem limitOf_le_full {p : CarProfile} (h : p.limitedLimit ≤ p.fullLimit) (a : Authority) :
    limitOf p a ≤ p.fullLimit := by
  cases a with
  | none => exact Nat.zero_le _
  | limited => exact h
  | full => exact le_refl _

/-- R123, R126: from an angle within the full limit, a computation's angle is within it. -/
theorem computation_angle_le (hp : ProfilesSound s)
    (hprevious : (s.channel c).thetaPrev.natAbs ≤ (s.carProfile c).fullLimit) :
    (computation s c).angle.natAbs ≤ (s.carProfile c).fullLimit := by
  have hclamped := (computation_clamped_le s c).1.trans
    (limitOf_le_full (CarProfile.limits_ordered (hp.2 c)) _)
  obtain ⟨-, hlow, hhigh, -⟩ := rateAngle_within (s.channel c).thetaPrev (computation s c).clamped
    (s.carProfile c).rateStep
  rw [← computation_angle] at hlow hhigh
  omega

/-- R127: a moving car takes the angle of its computation, and parks where it centres at 0. -/
theorem CarsFit.storeComputation {r : Computation} (h : CarsFit s)
    (hmoving : (s.channel c).state.moving = true)
    (hangle : r.angle.natAbs ≤ (s.carProfile c).fullLimit) : CarsFit (storeComputation c r s) := by
  have hlast : CarsFit (s.setDemand { s.demand with last := s.demand.last.set c (some r) }) :=
    h.of_channels ⟨rfl, rfl⟩ fun _ => rfl
  have hturned := hlast.setChannel (c := c)
    (x := { s.channel c with thetaPrev := r.angle }) ((h c).turns hmoving rfl rfl hangle)
  unfold Machine.storeComputation
  dsimp only
  split
  · rename_i hcentred
    refine (hturned.enterStill ?_ (.inl rfl)).carReport _ _
    rw [setChannel_same]
    simp [hcentred.1]
  · exact hturned

theorem CarsFit.computeCar (h : CarsFit s) (hp : ProfilesSound s) : CarsFit (computeCar c s) := by
  have hangle := computation_angle_le hp (h c).limit
  unfold Machine.computeCar
  split
  · rename_i e
    exact h.storeComputation (by rw [e]; rfl) hangle
  · rename_i e
    exact h.storeComputation (by rw [e]; rfl) hangle
  · exact h

theorem CarsFit.commandExpiry (h : CarsFit s) (hp : ProfilesSound s) : CarsFit (commandExpiry s) := by
  have htimer : CarsFit (restartTimer s) := h.of_channels ⟨rfl, rfl⟩ fun _ => rfl
  refine CarsFit.ageAll ?_
  split
  · exact htimer.of_frame (setCounters_frame _ _)
  · have hcomputed := forCars_keeps (p := fun t => ProfilesSound t ∧ CarsFit t)
      (fun c t ht => ⟨(computeCar_profiles c t).sound ht.1, ht.2.computeCar ht.1⟩) (restartTimer s)
      ⟨hp, htimer⟩
    exact hcomputed.2.buildCommand

end Cars

/-! ## Changes of the operating state -/

/-- Where each car's turn changes its own channel record alone and brings a record that fits the one
condition to one that fits the other, the turns of all cars bring every record there. -/
theorem forCars_turns {f : Car → State → State} {fit fit' : Car → CarChannel → Prop}
    (hother : ∀ c d t, d ≠ c → (f c t).channel d = t.channel d)
    (hown : ∀ c t, fit c (t.channel c) → fit' c ((f c t).channel c)) (s : State)
    (h : ∀ c, fit c (s.channel c)) (c : Car) : fit' c ((forCars f s).channel c) := by
  have key : ∀ (l : List Car) (t : State), l.Nodup →
      (∀ d, if d ∈ l then fit d (t.channel d) else fit' d (t.channel d)) →
      ∀ d, fit' d ((l.foldl (fun t c => f c t) t).channel d) := by
    intro l
    induction l with
    | nil => intro t _ ht d; simpa using ht d
    | cons b l ih =>
      intro t hnodup ht
      obtain ⟨hb, hl⟩ := List.nodup_cons.1 hnodup
      refine ih (f b t) hl fun d => ?_
      have htd := ht d
      by_cases hd : d = b
      · subst hd
        rw [if_neg hb]
        exact hown d t (by simpa using htd)
      · rw [hother b d t hd]
        simpa [hd] using htd
  exact key allCars s nodup_allCars (fun d => by simpa [mem_allCars d] using h d) c

theorem parkForSafe_other (c d : Car) (t : State) (h : d ≠ c) :
    (parkForSafe c t).channel d = t.channel d := by
  unfold parkForSafe
  dsimp only
  split <;> exact setChannel_other _ _ h

theorem activateCar_other (c d : Car) (t : State) (h : d ≠ c) :
    (activateCar c t).channel d = t.channel d := by
  unfold activateCar
  dsimp only
  split
  · exact setChannel_other _ _ h
  · split
    · split <;> exact setChannel_other _ _ h
    · rfl

theorem parkAllWaiting_channel (t : State) (d : Car) : (parkAllWaiting t).channel d = t.channel d := by
  unfold parkAllWaiting
  split <;> rfl

theorem standbyCar_other (c d : Car) (t : State) (h : d ≠ c) :
    (standbyCar c t).channel d = t.channel d := setChannel_other _ _ h

theorem restartCar_other (c d : Car) (t : State) (h : d ≠ c) :
    (restartCar c t).channel d = t.channel d := setChannel_other _ _ h

/-- A moving car is neither OFF nor PARKED. -/
theorem ChanState.moving_ne {st : ChanState} (h : st.moving = true) : st ≠ .off ∧ st ≠ .parked := by
  cases st <;> simp [ChanState.moving] at h ⊢

/-- R150: each car on a change to SAFE. -/
theorem parkForSafe_fit {op : OpState} {p : CarProfile} {c : Car} {t : State}
    (h : CarFit op p (t.channel c)) : CarFit .safe p ((parkForSafe c t).channel c) := by
  unfold parkForSafe
  dsimp only
  split
  · rename_i hmoving
    rw [setChannel_same]
    exact h.stilled (ChanState.moving_ne hmoving).1 (.inl rfl) rfl rfl
  · rename_i hstill
    rw [Bool.not_eq_true] at hstill
    rw [setChannel_same]
    exact .of_still h.off hstill (h.rest hstill) rfl

/-- R152, R153: each car on a change to ACTIVE. -/
theorem activateCar_fit {op : OpState} {p : CarProfile} {c : Car} {t : State} (hop : op ≠ .active)
    (h : CarFit op p (t.channel c)) : CarFit .active p ((activateCar c t).channel c) := by
  have hheld : (t.channel c).parkHeld = false := by
    rw [← Bool.not_eq_true]
    exact fun e => hop (h.held e).2
  unfold activateCar
  dsimp only
  split
  · rename_i hcentring
    rw [enterFollowing, setChannel_same]
    exact h.moves_on (by rw [hcentring]; rfl) rfl nofun (fun _ => rfl) nofun rfl rfl
  · rename_i hcentring
    split
    · rename_i hparked
      split
      · rw [setChannel_same]
        exact h.starts hparked rfl rfl rfl
      · rw [setChannel_same]
        exact { off := h.off, rest := h.rest, safe := nofun, following := fun _ => rfl,
                centring := fun e => absurd e hcentring, held := fun _ => ⟨hparked, rfl⟩,
                limit := h.limit }
    · exact { off := h.off, rest := h.rest, safe := nofun, following := fun _ => rfl,
              centring := fun e => absurd e hcentring, held := by simp [hheld], limit := h.limit }

/-- R154: each car on a change from ACTIVE to STANDBY. -/
theorem standbyCar_fit {p : CarProfile} {c : Car} {t : State} (h : CarFit .active p (t.channel c)) :
    CarFit .standby p ((standbyCar c t).channel c) := by
  unfold standbyCar
  rw [setChannel_same]
  by_cases hfollowing : (t.channel c).state = .following
  · exact h.moves_on (by rw [hfollowing]; rfl) (by rw [if_pos hfollowing]; rfl) nofun
      (by simp [hfollowing]) (fun _ => rfl) rfl rfl
  · rw [if_neg hfollowing]
    exact { off := h.off, rest := h.rest, safe := nofun, following := fun e => absurd e hfollowing,
            centring := fun _ => rfl, held := nofun, limit := h.limit }

/-- R147: each car on a warm restart. -/
theorem restartCar_fit {op : OpState} {p : CarProfile} {c : Car} {t : State}
    (h : CarFit op p (t.channel c)) : CarFit .safe p ((restartCar c t).channel c) := by
  have hoff := h.off
  unfold restartCar
  rw [setChannel_same]
  split
  case h_1 e => exact .of_still (by simpa [e] using hoff) rfl rfl rfl
  case h_2 e => exact .of_still (by simpa [e] using hoff) rfl rfl rfl
  case h_3 hon _ => exact .of_still (by simp [h.enabled hon]) rfl rfl rfl

section Cars

variable {s : State}

/-- A change of the operating state, car by car. -/
theorem CarsFit.changes {op : OpState} {f : Car → State → State} (h : CarsFit s)
    (hframe : ∀ c t, SameBut [.cars] t (f c t))
    (hother : ∀ c d t, d ≠ c → (f c t).channel d = t.channel d)
    (hown : ∀ c t, CarFit s.executor.opState (s.carProfile c) (t.channel c) →
      CarFit op (s.carProfile c) ((f c t).channel c)) : CarsFit (forCars f (setOpState op s)) := by
  intro c
  have hduty : SameDuty (setOpState op s) (forCars f (setOpState op s)) :=
    .of_frame (forCars_frame hframe _)
  have hprofile : (forCars f (setOpState op s)).carProfile c = s.carProfile c := by
    simp only [State.carProfile, hduty.profiles]
    rfl
  rw [hduty.opState, hprofile]
  exact forCars_turns (fit := fun d => CarFit s.executor.opState (s.carProfile d))
    (fit' := fun d => CarFit op (s.carProfile d)) hother hown (setOpState op s) h c

theorem CarsFit.changeToSafe (h : CarsFit s) : CarsFit (changeToSafe s) := by
  have hparked := h.changes parkForSafe_frame parkForSafe_other fun _ _ => parkForSafe_fit
  exact hparked.of_channels (.of_frame (parkAllWaiting_frame _)) (parkAllWaiting_channel _)

theorem CarsFit.changeToActive (h : CarsFit s) (hop : s.executor.opState ≠ .active) :
    CarsFit (changeToActive s) :=
  h.changes activateCar_frame activateCar_other fun _ _ => activateCar_fit hop

theorem CarsFit.changeToStandby (h : CarsFit s) (hop : s.executor.opState = .active) :
    CarsFit (changeToStandby s) :=
  h.changes (fun c t => setChannel_frame c _ t) standbyCar_other
    fun _ _ hfit => standbyCar_fit (hop ▸ hfit)

/-- R149: from SAFE, where every car is at rest, to STANDBY. -/
theorem CarsFit.leaveSafe (h : CarsFit s) (hop : s.executor.opState = .safe) :
    CarsFit (setOpState .standby s) := by
  intro c
  have hc := h c
  have hstill := hc.safe hop
  exact { off := hc.off, rest := hc.rest, safe := nofun,
          following := fun (e : (s.channel c).state = .following) => by
            simp [e, ChanState.moving] at hstill,
          centring := fun _ => rfl, limit := hc.limit,
          held := fun e => absurd (hc.held e).2 (by simp [hop]) }

theorem CarsFit.setTarget (h : CarsFit s) (target : OpState) : CarsFit (setTarget target s).2 := by
  have hchanged : ∀ before {t : State}, CarsFit t → CarsFit (changed before t).2 :=
    fun before t ht => ht.of_frame (changed_frame before t)
  have hrefused : ∀ f, CarsFit (refuseLeaving target f s).2 :=
    fun f => h.of_frame (refuseLeaving_frame target f s)
  unfold Machine.setTarget
  split
  case h_1 => exact h
  case h_2 => exact h
  case h_3 => exact h
  case h_4 => exact hchanged _ h.changeToSafe
  case h_5 => exact hchanged _ h.changeToSafe
  case h_6 hop => exact hchanged _ (h.changeToActive (by simp [hop]))
  case h_7 hop => exact hchanged _ (h.changeToStandby hop)
  case h_8 hop =>
    split
    · exact hrefused _
    · exact hchanged _ (h.leaveSafe hop)
  case h_9 hop =>
    split
    · exact hrefused _
    · exact hchanged _ (h.changeToActive (by simp [hop]))

theorem CarsFit.actSetState (h : CarsFit s) (p : List Byte) : CarsFit (actSetState p s).2 := by
  unfold Machine.actSetState
  split
  · exact h
  · exact h.setTarget _

/-- R147, R158. -/
theorem CarsFit.restartBlocks (h : CarsFit s) : CarsFit (restartBlocks s) := by
  have hcars := h.changes (op := .safe) (fun c t => setChannel_frame c _ t) restartCar_other
    fun _ _ => restartCar_fit
  have hodo := hcars.of_profiles (restartOdometry_frame _) (restartOdometry_profiles _)
  have hsensor := hodo.of_frame (setSensor_frame _ .reset)
  have hdemand := hsensor.of_profiles (setDemand_frame _ _) (restartDemand_profiles _)
  exact (hdemand.of_frame (lineClear_frame _ _)).of_frame (setMarker_frame _ _)

/-! ## Requests about cars -/

/-- R139: a written profile is that of a car at rest. -/
theorem actSetCarProfile_resting (p : List Byte) (s : State) :
    (actSetCarProfile p s).2 = s ∨ ∃ c x, (s.channel c).state.moving = false ∧
      (actSetCarProfile p s).2 = applyCarProfile c x s := by
  unfold actSetCarProfile
  split
  · exact .inl rfl
  · split
    · exact .inl rfl
    · dsimp only
      split
      · exact .inl rfl
      · split
        · exact .inl rfl
        · rename_i hstill
          split
          · exact .inl rfl
          · exact .inr ⟨_, _, by simpa using hstill, rfl⟩

theorem writeCarProfile_profile (c : Car) (x : CarProfile) (s : State) :
    (writeCarProfile c x s).carProfile c = x ∧
      ∀ d, d ≠ c → (writeCarProfile c x s).carProfile d = s.carProfile d :=
  ⟨vector_set_same _ _ _, fun _ hd => vector_set_other _ _ hd⟩

theorem enableCar_channel (c : Car) (s : State) :
    (enableCar c s).channel c =
      { state := .parked, thetaPrev := 0, lastState := none, lastActual := none, lastEcho := none,
        age := 0, run := 0, parkHeld := false } := by
  have hregime : ∀ (t : State) x, (setRegime c x t).channel c = t.channel c := fun _ _ => rfl
  simp [enableCar, hregime, enterStill_channel]

theorem enableCar_other {c d : Car} (s : State) (h : d ≠ c) :
    (enableCar c s).channel d = s.channel d := by
  have hregime : ∀ (t : State) x, (setRegime c x t).channel d = t.channel d := fun _ _ => rfl
  simp only [enableCar, hregime, setChannel_other _ _ h, enterStill_other _ _ h]

theorem disableCar_channel (c d : Car) (s : State) :
    (disableCar c s).channel d = (enterStill c .off s).channel d :=
  channel_of_cars (markerDisable_frame c (enterStill c .off s) .cars (by decide)) d

/-- R140: a car at rest takes a profile that enables, disables or keeps it. -/
theorem CarsFit.applyCarProfile {c : Car} (h : CarsFit s) (hstill : (s.channel c).state.moving = false)
    (x : CarProfile) : CarsFit (applyCarProfile c x s) := by
  obtain ⟨hown, hothers⟩ := writeCarProfile_profile c x s
  have hc := h c
  have key : ∀ t, SameDuty (writeCarProfile c x s) t → CarFit s.executor.opState x (t.channel c) →
      (∀ d, d ≠ c → t.channel d = s.channel d) → CarsFit t := by
    intro t hduty hfit hother d
    have hprofile : t.carProfile d = (writeCarProfile c x s).carProfile d := by
      simp only [State.carProfile, hduty.profiles]
    rw [hduty.opState, hprofile]
    by_cases hd : d = c
    · subst hd
      rw [hown]
      exact hfit
    · rw [hothers d hd, hother d hd]
      exact h d
  have hkept : ((s.channel c).state = .off ↔ x.enabled = false) → CarsFit (writeCarProfile c x s) :=
    fun hoff => key _ ⟨rfl, rfl⟩ (hc.rewritten hstill hoff) fun _ _ => rfl
  unfold Machine.applyCarProfile
  dsimp only
  split
  · rename_i hoff
    split
    · rename_i hx
      refine key _ (.of_frame (enableCar_frame c _)) ?_ fun d hd => enableCar_other _ hd
      rw [enableCar_channel]
      exact .of_still (by simp [hx]) rfl rfl rfl
    · rename_i hx
      exact hkept (by simpa [hoff] using hx)
  · rename_i hon
    split
    · rename_i hx
      exact hkept (by simp [hon, hx])
    · rename_i hx
      refine key _ (.of_frame (disableCar_frame c _)) ?_ fun d hd => ?_
      · rw [disableCar_channel, enterStill_channel]
        exact .of_still (by simpa using hx) rfl rfl rfl
      · rw [disableCar_channel, enterStill_other _ _ hd]
        rfl

theorem CarsFit.actSetCarProfile (h : CarsFit s) (p : List Byte) : CarsFit (actSetCarProfile p s).2 := by
  rcases actSetCarProfile_resting p s with e | ⟨c, x, hstill, e⟩ <;> rw [e]
  · exact h
  · exact h.applyCarProfile hstill x

/-- R142: a new car order map takes status fields alone from the records. -/
theorem CarsFit.writeOrder (h : CarsFit s) (m : Vector UnitId 12) : CarsFit (writeOrder m s) := by
  have hforgot := forCars_keeps (p := CarsFit)
    (f := fun c t => if m[c] = s.unitOf c then t else forgetStatus c t)
    (fun c t ht => by
      split
      · exact ht
      · exact ht.setChannel ((ht c).same rfl rfl rfl)) s h
  exact hforgot.of_channels ⟨rfl, rfl⟩ fun _ => rfl

theorem CarsFit.actSetCarOrder (h : CarsFit s) (p : List Byte) : CarsFit (actSetCarOrder p s).2 := by
  unfold Machine.actSetCarOrder
  split
  · exact h
  · split
    · exact h
    · split
      · exact h
      · exact h.writeOrder _

/-- R138: a FAILED car becomes PARKED. -/
theorem CarsFit.clearCar {c : Car} (h : CarsFit s) (hfailed : (s.channel c).state = .failed) :
    CarsFit (clearCar c s) := by
  have hstill := h.enterStill (c := c) (by simp [hfailed]) (.inl rfl)
  exact hstill.setChannel ((hstill c).same rfl rfl rfl)

theorem CarsFit.actClearCar (h : CarsFit s) (p : List Byte) : CarsFit (actClearCar p s).2 := by
  unfold Machine.actClearCar
  split
  · exact h
  · split
    · exact h
    · split
      · exact h
      · rename_i hfailed
        exact h.clearCar (not_not.1 hfailed)

/-! ## The settled obligation -/

theorem CarsFit.act {name : RequestName} {act : List Byte → State → Reply × State}
    (hact : name.act = some act) (p : List Byte) (h : CarsFit s) : CarsFit (act p s).2 := by
  have hframe := act_frame hact p s
  cases name <;> cases hact
  case setState => exact h.actSetState p
  case setCarProfile => exact h.actSetCarProfile p
  case setCarOrder => exact h.actSetCarOrder p
  case clearCar => exact h.actClearCar p
  all_goals exact h.of_frame hframe (by decide)

theorem CarsFit.deliver (h : CarsFit s) (role : Role) (p : List Byte) : CarsFit (deliver role p s) := by
  cases role with
  | sensorP => exact h.of_frame (handleSensor_frame .p p s)
  | sensorQ => exact h.of_frame (handleSensor_frame .q p s)
  | odometry => exact h.of_profiles (handleOdometry_frame p s) (handleOdometry_profiles p s)
  | markerReader => exact h.of_frame (handleMarker_frame p s)
  | unitStatus => exact h.handleUnitStatus p
  | manager => exact h

theorem CarsFit.event {t : State} (hevent : BlockEvent s t) (hp : ProfilesSound s) (h : CarsFit s) :
    CarsFit t := by
  cases hevent with
  | deliver role p => exact h.deliver role p
  | odometryExpiry => exact h.of_profiles (odometryExpiry_frame s) (odometryExpiry_profiles s)
  | channelExpiry x => exact h.of_frame (channelExpiry_frame x s)
  | commandExpiry => exact h.commandExpiry hp
  | attentionExpiry => exact h.of_frame (attentionExpiry_frame s)
  | restart => exact h.restartBlocks
  | act hact p => exact h.act hact p

theorem reset_carsFit : CarsFit .reset := by
  intro c
  have hchannel : State.reset.channel c = .reset := by simp [State.channel, State.reset, Cars.reset]
  have hprofile : State.reset.carProfile c = .reset := by
    simp [State.carProfile, State.reset, Demand.reset]
  rw [hchannel, hprofile]
  exact .of_still (by decide) rfl rfl rfl

end Cars

/-- Settles O57: every change of a channel record brings its car to rest, keeps it moving as the operating
state says, or leaves state and angle; a computed angle stays within the full limit, which the limited
limit of a sound profile never exceeds. -/
theorem carsStaySound : Obligations.CarsStaySound := by
  intro s t hp hcars hstep
  rw [carsSound_iff] at hcars ⊢
  exact step_keeps_of_event (H := ProfilesSound) (P := CarsFit)
    (fun k hs => (SameProfiles.of_frame k.frame).sound hs) (fun k h => h.of_traffic k) reset_carsFit
    CarsFit.event hp hcars hstep

end Sys2Proof.Machine
end

section
/-! What changes of the cars leave alone, and what the ageing leaves (R135, R137, R145): such changes reach
the channel records, a waiting COMMAND frame's entries with the last handed entries, and the fore port. -/

set_option Elab.async false

namespace Sys2Proof.Machine

/-! ## What changes of the cars leave alone -/

/-- What every change of channel records with its reports keeps. A waiting frame is rewritten to PARK entries
alone, and without a waiting frame the last handed entries stay. -/
structure CarsKept (s t : State) : Prop where
  frame : SameBut carFields s t
  order : t.cars.order = s.cars.order
  commandSeq : t.cars.commandSeq = s.cars.commandSeq
  aftTx : t.ports.aftTx = s.ports.aftTx
  aftSeq : t.ports.aftSeq = s.ports.aftSeq
  aftQueue : t.ports.aftQueue = s.ports.aftQueue
  skips : t.counters.commandSkips = s.counters.commandSkips
  waiting : t.ports.waiting = none ↔ s.ports.waiting = none
  handed : ∀ u : UnitId, t.cars.lastHanded[u] = s.cars.lastHanded[u] ∨ t.cars.lastHanded[u] = .parked

/-- The changes that bring no car to rest also leave the waiting frame and the last handed entries. -/
structure CarsRun (s t : State) : Prop extends CarsKept s t where
  same : t.ports.waiting = s.ports.waiting
  entries : t.cars.lastHanded = s.cars.lastHanded

theorem CarsKept.trans {s t u : State} (h : CarsKept s t) (k : CarsKept t u) : CarsKept s u where
  frame := h.frame.trans k.frame
  order := k.order.trans h.order
  commandSeq := k.commandSeq.trans h.commandSeq
  aftTx := k.aftTx.trans h.aftTx
  aftSeq := k.aftSeq.trans h.aftSeq
  aftQueue := k.aftQueue.trans h.aftQueue
  skips := k.skips.trans h.skips
  waiting := k.waiting.trans h.waiting
  handed := fun x => by
    rcases k.handed x with e | e
    · rw [e]
      exact h.handed x
    · exact .inr e

theorem CarsKept.demand {s t : State} (h : CarsKept s t) : t.demand = s.demand :=
  h.frame .demand (by decide)

theorem CarsRun.trans {s t u : State} (h : CarsRun s t) (k : CarsRun t u) : CarsRun s u where
  toCarsKept := h.toCarsKept.trans k.toCarsKept
  same := k.same.trans h.same
  entries := k.entries.trans h.entries

theorem CarsRun.refl (s : State) : CarsRun s s :=
  ⟨⟨.refl _ _, rfl, rfl, rfl, rfl, rfl, rfl, .rfl, fun _ => .inl rfl⟩, rfl, rfl⟩

theorem setChannel_runs (c : Car) (x : CarChannel) (s : State) : CarsRun s (setChannel c x s) :=
  ⟨⟨(setChannel_frame c x s).mono (by decide), rfl, rfl, rfl, rfl, rfl, rfl, .rfl, fun _ => .inl rfl⟩,
    rfl, rfl⟩

theorem offerReport_runs (r : Report) (s : State) : CarsRun s (offerReport r s) := by
  obtain ⟨hTx, hSeq, hQueue, hwaiting, -⟩ := offerReport_ports r s
  have hcars : (offerReport r s).cars = s.cars := offerReport_frame r s .cars (by decide)
  have hskips : (offerReport r s).counters.commandSkips = s.counters.commandSkips := by
    rcases offerReport_cases r s with ⟨-, e⟩ | ⟨-, e⟩ <;> rw [e] <;> rfl
  exact ⟨⟨(offerReport_frame r s).mono (by decide), by rw [hcars], by rw [hcars], hTx, hSeq, hQueue,
    hskips, by rw [hwaiting], fun u => .inl (by simp only [hcars])⟩, hwaiting, by rw [hcars]⟩

theorem carReport_runs (c : Car) (before : ChanState) (cause : CarCause) (s : State) :
    CarsRun s (carReport c before cause s) := offerReport_runs _ s

/-- R145, first: a waiting frame's entry of one unit becomes PARK, and the unit's last handed entry. -/
theorem parkWaiting_kept (u : UnitId) (s : State) : CarsKept s (parkWaiting u s) := by
  rcases parkWaiting_cases u s with ⟨-, e⟩ | ⟨w, hw, e⟩ <;> rw [e]
  · exact (CarsRun.refl s).toCarsKept
  · refine ⟨((setPorts_frame _ _).mono (by decide)).trans ((setCars_frame _ _).mono (by decide)), rfl, rfl,
      rfl, rfl, rfl, rfl, by simp [hw], fun v => ?_⟩
    by_cases hv : v = u
    · subst hv
      exact .inr (vector_set_same _ _ _)
    · exact .inl (vector_set_other _ _ hv)

theorem enterStill_kept (c : Car) (st : ChanState) (s : State) : CarsKept s (enterStill c st s) :=
  (setChannel_runs c _ s).toCarsKept.trans (parkWaiting_kept _ _)

/-- R137, R145: a reported change of a channel record. -/
theorem carChanged_kept (c : Car) (y : CarChannel) (cause : CarCause) (s : State) :
    CarsKept s (s.carChanged c y cause) := by
  have hset := (setChannel_runs c y s).toCarsKept
  unfold State.carChanged
  dsimp only
  split
  · exact hset
  · refine CarsKept.trans ?_ (offerReport_runs _ _).toCarsKept
    split
    · rw [← parkWaiting_eq_sentPark]
      exact hset.trans (parkWaiting_kept _ _)
    · exact hset

/-- R137: a reported change to FOLLOWING, CENTRING or HOLD, or of the record alone. -/
theorem carChanged_runs {c : Car} {y : CarChannel} (cause : CarCause) {s : State}
    (h : y.state = (s.channel c).state ∨ ¬(y.state = .parked ∨ y.state = .off ∨ y.state = .failed)) :
    CarsRun s (s.carChanged c y cause) := by
  by_cases hstate : y.state = (s.channel c).state
  · rw [carChanged_silent cause hstate]
    exact setChannel_runs c y s
  · rw [carChanged_running cause hstate (h.resolve_left hstate)]
    exact (setChannel_runs c y s).trans (carReport_runs _ _ _ _)

/-! ## Ageing -/

theorem ageCar_kept (c : Car) (s : State) : CarsKept s (ageCar c s) := by
  unfold ageCar
  dsimp only
  split
  · exact (CarsRun.refl s).toCarsKept
  · exact (setChannel_runs _ _ _).toCarsKept

theorem ageTest_kept (c : Car) (s : State) : CarsKept s (ageTest c s) := by
  have hfails : ∀ before cause, CarsKept s (carReport c before cause (enterStill c .failed s)) :=
    fun before cause => (enterStill_kept c .failed s).trans (carReport_runs _ _ _ _).toCarsKept
  unfold ageTest
  dsimp only
  split
  · split
    · exact hfails _ _
    · exact ((setChannel_runs _ _ _).trans (carReport_runs _ _ _ _)).toCarsKept
  · split
    · exact hfails _ _
    · exact (CarsRun.refl s).toCarsKept

theorem forCars_kept {f : Car → State → State} (h : ∀ c s, CarsKept s (f c s)) (s : State) :
    CarsKept s (forCars f s) :=
  forCars_keeps (p := CarsKept s) (fun c t ht => ht.trans (h c t)) s (CarsRun.refl s).toCarsKept

theorem ageAll_kept (s : State) : CarsKept s (ageAll s) :=
  (forCars_kept ageCar_kept s).trans (forCars_kept ageTest_kept _)

theorem ageCar_other (c d : Car) (s : State) (h : d ≠ c) : (ageCar c s).channel d = s.channel d := by
  unfold ageCar
  dsimp only
  split
  · rfl
  · exact setChannel_other _ s h

theorem ageCar_angle (c : Car) (s : State) :
    ((ageCar c s).channel c).thetaPrev = (s.channel c).thetaPrev := by
  unfold ageCar
  dsimp only
  split
  · rfl
  · rw [setChannel_same]

theorem ageTest_other (c d : Car) (s : State) (h : d ≠ c) : (ageTest c s).channel d = s.channel d := by
  have hstill : ∀ before cause,
      (carReport c before cause (enterStill c .failed s)).channel d = s.channel d :=
    fun before cause => by rw [carReport_channel, enterStill_other _ _ h]
  unfold ageTest
  dsimp only
  split
  · split
    · exact hstill _ _
    · rw [carReport_channel]
      exact setChannel_other _ s h
  · split
    · exact hstill _ _
    · rfl

/-- R135: only a car that fails by its age loses its angle. -/
theorem ageTest_angle (c : Car) (s : State) (h : ((ageTest c s).channel c).state ≠ .failed) :
    ((ageTest c s).channel c).thetaPrev = (s.channel c).thetaPrev := by
  have hstill : ∀ before cause,
      ((carReport c before cause (enterStill c .failed s)).channel c).state = .failed :=
    fun before cause => by rw [carReport_channel, enterStill_channel]
  unfold ageTest at h ⊢
  dsimp only at h ⊢
  split at h
  · split at h
    · exact absurd (hstill _ _) h
    · rename_i hage hfail
      rw [if_pos hage, if_neg hfail, carReport_channel, enterKeeping, setChannel_same]
  · split at h
    · exact absurd (hstill _ _) h
    · rename_i hage hhold
      rw [if_neg hage, if_neg hhold]

theorem ageAll_angle (s : State) (c : Car) (h : ((ageAll s).channel c).state ≠ .failed) :
    ((ageAll s).channel c).thetaPrev = (s.channel c).thetaPrev := by
  have haged := forCars_turns (fit := fun d x => x.thetaPrev = (s.channel d).thetaPrev)
    (fit' := fun d x => x.thetaPrev = (s.channel d).thetaPrev) ageCar_other
    (fun d t ht => (ageCar_angle d t).trans ht) s fun _ => rfl
  exact forCars_turns (fit := fun d x => x.thetaPrev = (s.channel d).thetaPrev)
    (fit' := fun d x => x.state ≠ .failed → x.thetaPrev = (s.channel d).thetaPrev) ageTest_other
    (fun d t ht hstate => (ageTest_angle d t hstate).trans ht) _ haged c h

end Sys2Proof.Machine
end

section
/-! The expiry of the command timer (R117 to R119, R127, R128, R143 to R145): a period that is not skipped,
written as the reported change of each car to the record that its computation gives, the handing of one
frame, and the reported change of each held car that the frame frees. -/

set_option Elab.async false

namespace Sys2Proof.Machine

/-! ## Turns of the cars -/

/-- Where two turns of a car agree while its own record is the one it starts from, the turns of all cars
agree. -/
theorem foldl_turns_congr {f g : State → Car → State} {keep : State → Prop} {start : Car → CarChannel}
    (hfg : ∀ t c, keep t → t.channel c = start c → f t c = g t c)
    (hkeep : ∀ t c, keep t → t.channel c = start c → keep (g t c))
    (hother : ∀ t c d, d ≠ c → (g t c).channel d = t.channel d) (l : List Car) (t : State)
    (hnodup : l.Nodup) (ht : keep t) (hstart : ∀ c ∈ l, t.channel c = start c) :
    l.foldl f t = l.foldl g t ∧ keep (l.foldl g t) := by
  induction l generalizing t with
  | nil => exact ⟨rfl, ht⟩
  | cons c l ih =>
    obtain ⟨hc, hl⟩ := List.nodup_cons.1 hnodup
    have hown := hstart c (by simp)
    rw [List.foldl_cons, List.foldl_cons, hfg t c ht hown]
    refine ih (g t c) hl (hkeep t c ht hown) fun d hd => ?_
    rw [hother t c d fun e => hc (e ▸ hd)]
    exact hstart d (by simp [hd])

/-- Each car in turn takes the record `y` gives it. -/
def State.allChanged (y : Car → CarChannel) (cause : CarCause) (s : State) : State :=
  allCars.foldl (fun u c => u.carChanged c (y c) cause) s

theorem allChanged_channel (y : Car → CarChannel) (cause : CarCause) (s : State) (c : Car) :
    (s.allChanged y cause).channel c = y c :=
  forCars_channel (f := fun c u => u.carChanged c (y c) cause) (g := fun c _ => y c)
    (keep := fun _ => True) (fun _ _ _ => trivial) (fun c s _ => carChanged_channel c (y c) cause s)
    (fun c _ s _ h => carChanged_other (y c) cause s h) s trivial c

theorem allChanged_kept (y : Car → CarChannel) (cause : CarCause) (s : State) :
    CarsKept s (s.allChanged y cause) :=
  forCars_kept (fun c t => carChanged_kept c (y c) cause t) s

theorem setChannel_self (c : Car) (s : State) : setChannel c (s.channel c) s = s := by
  have hchannels : s.cars.channels.set c (s.channel c) = s.cars.channels := by
    simp [State.channel]
  rw [setChannel, hchannels]
  rfl

theorem setChannel_setChannel (c : Car) (x y : CarChannel) (s : State) :
    setChannel c y (setChannel c x s) = setChannel c y s := by
  simp [setChannel]

/-- A record that a car holds already changes nothing. -/
theorem carChanged_self (c : Car) (cause : CarCause) (s : State) :
    s.carChanged c (s.channel c) cause = s := by
  rw [carChanged_silent cause rfl, setChannel_self]

/-! The last computations play no part in a change of the cars. -/

theorem offerReport_setDemand (r : Report) (d : Demand) (s : State) :
    offerReport r (s.setDemand d) = (offerReport r s).setDemand d := by
  unfold offerReport
  split
  · rw [if_pos (by assumption)]
    rfl
  · rw [if_neg (by assumption)]
    rfl

theorem carChanged_setDemand (c : Car) (y : CarChannel) (cause : CarCause) (d : Demand) (s : State) :
    (s.setDemand d).carChanged c y cause = (s.carChanged c y cause).setDemand d := by
  have hchannel : (s.setDemand d).channel c = s.channel c := rfl
  by_cases hstate : y.state = (s.channel c).state
  · rw [carChanged_silent cause hstate, carChanged_silent cause (hchannel ▸ hstate)]
    rfl
  · have hstate' : y.state ≠ ((s.setDemand d).channel c).state := hstate
    simp only [State.carChanged, if_neg hstate, if_neg hstate']
    rw [← offerReport_setDemand]
    split <;> rfl

theorem foldl_carChanged_setDemand (y : Car → CarChannel) (cause : CarCause) (l : List Car) (d : Demand)
    (s : State) : l.foldl (fun u c => u.carChanged c (y c) cause) (s.setDemand d) =
      (l.foldl (fun u c => u.carChanged c (y c) cause) s).setDemand d := by
  induction l generalizing s with
  | nil => rfl
  | cons c l ih => rw [List.foldl_cons, List.foldl_cons, carChanged_setDemand, ih]

/-! ## The computations of a period -/

/-- R118: the car is computed. -/
abbrev ChanState.driven (st : ChanState) : Prop := st = .following ∨ st = .centring

/-- R127: the record that a car's computation leaves, from the state as the event met it. -/
def State.computed (s : State) (c : Car) : CarChannel :=
  let x := s.channel c
  let angle := (computation s c).angle
  if x.state = .centring ∧ angle = 0 then { x with state := .parked, thetaPrev := 0, parkHeld := false }
  else if x.state = .following ∨ x.state = .centring then { x with thetaPrev := angle }
  else x

theorem computed_undriven {s : State} {c : Car} (h : ¬(s.channel c).state.driven) :
    s.computed c = s.channel c := by
  unfold State.computed
  dsimp only
  rw [if_neg fun hparks => h (.inr hparks.1), if_neg h]

/-- R127: a computed car's angle is the new one, 0 where it parks. -/
theorem computed_driven {s : State} {c : Car} (h : (s.channel c).state.driven) :
    (s.computed c).thetaPrev = (computation s c).angle := by
  unfold State.computed
  dsimp only
  split
  · rename_i hparks
    exact hparks.2.symm
  · rfl

/-- R128: the last computations with a car's own put in. -/
def State.lastWith (s : State) (c : Car) (last : Vector (Option Computation) 12) :
    Vector (Option Computation) 12 :=
  if (s.channel c).state.driven then last.set c (some (computation s c)) else last

/-- R117, R128: the timer restarted and every driven car's computation put in. -/
def State.stored (s : State) : State :=
  s.setDemand { s.demand with
    timer := some s.profile.commandPeriod,
    last := tabulate (fun c =>
      if (s.channel c).state = .following ∨ (s.channel c).state = .centring then some (computation s c)
      else s.demand.last[c]) }

/-- R127: every car computed. -/
def State.moved (s : State) : State := s.stored.allChanged s.computed .centred

/-- `t` drives its cars as `s` does: only ports, counters, cars, the timer and the last computations may
differ. -/
structure SameDrive (s t : State) : Prop where
  frame : SameBut periodFields s t
  gate : t.demand.gateOpen = s.demand.gateOpen
  profiles : t.demand.profiles = s.demand.profiles

theorem SameDrive.trans {s t u : State} (h : SameDrive s t) (k : SameDrive t u) : SameDrive s u where
  frame := h.frame.trans k.frame
  gate := k.gate.trans h.gate
  profiles := k.profiles.trans h.profiles

theorem CarsKept.drive {s t : State} (h : CarsKept s t) : SameDrive s t where
  frame := h.frame.mono (by decide)
  gate := congrArg Demand.gateOpen h.demand
  profiles := congrArg Demand.profiles h.demand

theorem setLast_drive (s : State) (last : Vector (Option Computation) 12) :
    SameDrive s (s.setDemand { s.demand with last := last }) :=
  ⟨(setDemand_frame _ _).mono (by decide), rfl, rfl⟩

/-- R119: what a computation reads. -/
theorem computation_congr {s t : State} {c : Car} (h : SameDrive s t) (hc : t.channel c = s.channel c) :
    computation t c = computation s c := by
  have hline : t.line = s.line := h.frame .line (by decide)
  have hprofile : t.profile = s.profile := h.frame .profile (by decide)
  have hroute : t.route = s.route := h.frame .route (by decide)
  have hodo : t.odo = s.odo := h.frame .odo (by decide)
  have hmarker : t.marker = s.marker := h.frame .marker (by decide)
  have hexecutor : t.executor = s.executor := h.frame .executor (by decide)
  simp only [computation, effectiveAuthority, State.carProfile, State.tapRead, State.tapCell, State.regime,
    hc, hline, hprofile, hroute, hodo, hmarker, hexecutor, h.gate, h.profiles]

/-- R127: parking overwrites the angle. -/
theorem enterStill_setAngle (c : Car) (st : ChanState) (angle : Int) (s : State) :
    enterStill c st (setChannel c { s.channel c with thetaPrev := angle } s) = enterStill c st s := by
  simp only [enterStill, setChannel_same, setChannel_setChannel]
  rfl

/-- R118, R127, R128: one car's turn, its own record being as the event met it. -/
theorem computeCar_eq {s t : State} {c : Car} (h : SameDrive s t) (hc : t.channel c = s.channel c) :
    computeCar c t =
      (t.setDemand { t.demand with last := s.lastWith c t.demand.last }).carChanged c (s.computed c)
        .centred := by
  have hstore : ∀ (e : (s.channel c).state.driven),
      storeComputation c (computation s c) t =
        (t.setDemand { t.demand with last := s.lastWith c t.demand.last }).carChanged c (s.computed c)
          .centred := by
    intro e
    rw [State.lastWith, if_pos e]
    generalize hu : t.setDemand { t.demand with last := t.demand.last.set c (some (computation s c)) } = u
    have huc : u.channel c = s.channel c := by rw [← hu, ← hc]; rfl
    simp only [storeComputation, hu]
    rw [hc]
    by_cases hparks : (s.channel c).state = .centring ∧ (computation s c).angle = 0
    · have hstill := carChanged_still (c := c) (st := .parked) (s := u) .centred
        (by simp [huc, hparks.1]) (.inl rfl)
      have hcomputed : (enterStill c .parked u).channel c = s.computed c := by
        rw [enterStill_channel, huc]
        simp [State.computed, hparks]
      rw [if_pos hparks, enterStill_setAngle, ← hparks.1, ← huc, hstill, hcomputed]
    · have hcomputed : s.computed c = { u.channel c with thetaPrev := (computation s c).angle } := by
        simp only [State.computed, if_neg hparks, if_pos e, huc]
      rw [if_neg hparks, carChanged_silent .centred (by rw [hcomputed]), hcomputed]
  have hcomputation := computation_congr h hc
  unfold computeCar
  split
  · rename_i e
    rw [hcomputation]
    exact hstore (.inl (hc ▸ e))
  · rename_i e
    rw [hcomputation]
    exact hstore (.inr (hc ▸ e))
  · rename_i hfollowing hcentring
    have hundriven : ¬(s.channel c).state.driven := by
      rw [← hc]
      exact not_or.2 ⟨hfollowing, hcentring⟩
    rw [computed_undriven hundriven, ← hc, State.lastWith, if_neg hundriven]
    exact (carChanged_self c .centred t).symm

/-- The last computations with every car's own put in. -/
theorem foldl_lastWith (s : State) (last : Vector (Option Computation) 12) :
    allCars.foldl (fun v c => s.lastWith c v) last = tabulate (fun c =>
      if (s.channel c).state = .following ∨ (s.channel c).state = .centring then some (computation s c)
      else last[c]) := by
  have key : ∀ (l : List Car) (v : Vector (Option Computation) 12) (d : Car),
      (l.foldl (fun v c => s.lastWith c v) v)[d] =
        if d ∈ l ∧ (s.channel d).state.driven then some (computation s d) else v[d] := by
    intro l
    induction l with
    | nil => intro v d; simp
    | cons c l ih =>
      intro v d
      rw [List.foldl_cons, ih]
      by_cases hd : d = c
      · subst hd
        by_cases hdriven : (s.channel d).state.driven <;> simp [State.lastWith, hdriven]
      · have hkeep : (s.lastWith c v)[d] = v[d] := by
          unfold State.lastWith
          split
          · exact vector_set_other v _ hd
          · rfl
        simp [hd, hkeep]
  refine Vector.ext fun i hi => ?_
  have hget := key allCars last ⟨i, hi⟩
  have htable := tabulate_get (fun c =>
    if (s.channel c).state = .following ∨ (s.channel c).state = .centring then some (computation s c)
    else last[c]) ⟨i, hi⟩
  exact hget.trans ((if_congr (by simp [mem_allCars]) rfl rfl).trans htable.symm)

/-- R118, R119: the turns of all cars, the last computations put in one by one. -/
theorem foldl_computed (s : State) (l : List Car) (t : State) :
    l.foldl (fun u c => (u.setDemand { u.demand with last := s.lastWith c u.demand.last }).carChanged c
        (s.computed c) .centred) t =
      (l.foldl (fun u c => u.carChanged c (s.computed c) .centred) t).setDemand
        { t.demand with last := l.foldl (fun v c => s.lastWith c v) t.demand.last } := by
  induction l generalizing t with
  | nil => rfl
  | cons c l ih =>
    simp only [List.foldl_cons]
    rw [ih, carChanged_setDemand, foldl_carChanged_setDemand]
    rfl

/-- R118, R119, R127: every car computed from the state as the event met it. -/
theorem forCars_computeCar (s : State) : forCars computeCar (restartTimer s) = s.moved := by
  have hturns := (foldl_turns_congr (f := fun t c => computeCar c t) (keep := SameDrive s)
    (start := s.channel) (fun _ _ ht hc => computeCar_eq ht hc)
    (fun t c ht _ => (ht.trans (setLast_drive t _)).trans
      (carChanged_kept c (s.computed c) .centred _).drive)
    (fun t c d hd => carChanged_other _ _ _ hd) allCars (restartTimer s) nodup_allCars
    ⟨(setDemand_frame _ _).mono (by decide), rfl, rfl⟩ fun _ _ => rfl).1
  rw [forCars, hturns, foldl_computed, foldl_lastWith, ← foldl_carChanged_setDemand]
  rfl

/-! ## The frame -/

/-- R143, R144: the frame built after the computations. -/
def State.builtFrame (s : State) : CommandFrame :=
  { seq := s.ports.aftSeq, commandSeq := s.cars.commandSeq, entries := tabulate (unitEntry s.moved) }

/-- R143, R145: the frame `w` begun at a free aft transmitter or waiting at the arbiter, its entries the
last handed ones. -/
def State.handed (s : State) (w : CommandFrame) : State :=
  (s.moved.setPorts
    (if s.ports.aftTx = none then
      { s.moved.ports with aftTx := some (w.frame s.nodeAddress), aftSeq := s.ports.aftSeq + 1 }
    else { s.moved.ports with waiting := some w, aftSeq := s.ports.aftSeq + 1 })).setCars
    { s.moved.cars with commandSeq := s.cars.commandSeq + 1, lastHanded := w.entries }

/-- R145: the record of a car after the frame `w` has been handed: a held car whose unit it sends PARK
follows. -/
def State.followed (s : State) (w : CommandFrame) (c : Car) : CarChannel :=
  let x := s.computed c
  if x.state = .parked ∧ x.parkHeld = true ∧ s.enabled c = true ∧ s.executor.opState = .active ∧
      w.entries[s.unitOf c].mode = .park then
    { x with state := .following, thetaPrev := 0, run := 0, parkHeld := false }
  else x

/-- R118, R143, R145: a period that is not skipped, before its ageing. -/
def State.period (s : State) : State :=
  (s.handed s.builtFrame).allChanged (s.followed s.builtFrame) .parkSent

theorem moved_kept (s : State) : CarsKept s.stored s.moved := allChanged_kept _ _ _

theorem moved_frame (s : State) : SameBut periodFields s s.moved :=
  ((setDemand_frame _ _).mono (by decide)).trans ((moved_kept s).frame.mono (by decide))

theorem moved_channel (s : State) (c : Car) : s.moved.channel c = s.computed c :=
  allChanged_channel _ _ _ c

theorem moved_demand (s : State) : s.moved.demand = s.stored.demand :=
  (moved_kept s).frame .demand (by decide)

theorem moved_executor (s : State) : s.moved.executor = s.executor := moved_frame s .executor (by decide)

theorem moved_enabled (s : State) (c : Car) : s.moved.enabled c = s.enabled c := by
  simp only [State.enabled, State.carProfile, moved_demand]
  rfl

theorem moved_unitOf (s : State) (c : Car) : s.moved.unitOf c = s.unitOf c := by
  simp only [State.unitOf, (moved_kept s).order]
  rfl

theorem moved_waiting {s : State} (h : s.ports.waiting = none) : s.moved.ports.waiting = none :=
  (moved_kept s).waiting.2 h

/-- R11: a frame handed to the arbiter begins at a free transmitter, or waits. -/
theorem aftKick_handed (node : Byte) (p : Ports) (w : CommandFrame) (n : Byte) (h : p.waiting = none) :
    Ports.aftKick node { p with waiting := some w, aftSeq := n } =
      if p.aftTx = none then { p with aftTx := some (w.frame node), aftSeq := n }
      else { p with waiting := some w, aftSeq := n } := by
  obtain ⟨aftTx, foreTx, aftSeq, foreSeq, aftQueue, foreQueue, waiting, reservation⟩ := p
  obtain rfl : waiting = none := h
  cases aftTx <;> rfl

theorem handFrame_moved {s : State} (h : s.ports.waiting = none) :
    handFrame s.moved = s.handed s.builtFrame := by
  have hkept := moved_kept s
  have hnode : s.moved.nodeAddress = s.nodeAddress := moved_frame s .nodeAddress (by decide)
  have hTx : s.moved.ports.aftTx = s.ports.aftTx := hkept.aftTx
  have hSeq : s.moved.ports.aftSeq = s.ports.aftSeq := hkept.aftSeq
  have hCommand : s.moved.cars.commandSeq = s.cars.commandSeq := hkept.commandSeq
  unfold handFrame State.handed State.builtFrame
  dsimp only
  rw [aftKick_handed _ _ _ _ (moved_waiting h), hnode, hTx, hSeq, hCommand]

theorem handed_executor (s : State) (w : CommandFrame) : (s.handed w).executor = s.executor :=
  moved_executor s

theorem handed_enabled (s : State) (w : CommandFrame) (c : Car) :
    (s.handed w).enabled c = s.enabled c := moved_enabled s c

theorem handed_unitOf (s : State) (w : CommandFrame) (c : Car) :
    (s.handed w).unitOf c = s.unitOf c := moved_unitOf s c

theorem handed_channel (s : State) (w : CommandFrame) (c : Car) :
    (s.handed w).channel c = s.computed c := moved_channel s c

/-- R145: a car's record after the frame is as before it, or FOLLOWING. -/
theorem followed_state (s : State) (w : CommandFrame) (c : Car) :
    (s.followed w c).state = (s.computed c).state ∨
      ¬((s.followed w c).state = .parked ∨ (s.followed w c).state = .off ∨
        (s.followed w c).state = .failed) := by
  unfold State.followed
  dsimp only
  split
  · exact .inr (by simp)
  · exact .inl rfl

/-- R145: one car's turn after the frame `w` has been handed. -/
theorem parkSent_eq {s t : State} {w : CommandFrame} {c : Car} (h : CarsRun (s.handed w) t)
    (hc : t.channel c = s.computed c) :
    parkSent c t = t.carChanged c (s.followed w c) .parkSent := by
  have hexecutor : t.executor = s.executor :=
    (h.frame .executor (by decide) : t.executor = _).trans (handed_executor s w)
  have henabled : t.enabled c = s.enabled c :=
    (enabled_of_frame h.frame (by decide) c).trans (handed_enabled s w c)
  have hunit : t.unitOf c = s.unitOf c := by
    rw [← handed_unitOf s w c]
    simp only [State.unitOf, h.order]
  have hentries : t.cars.lastHanded = w.entries := h.entries
  unfold parkSent State.followed
  simp only [hc, hexecutor, henabled, hunit, hentries]
  split
  · rename_i hsent
    have hparked := hsent.1
    rw [carChanged_running .parkSent (by simp [hc, hparked]) (by simp), hc, hparked]
  · rw [← hc]
    exact (carChanged_self c .parkSent t).symm

theorem forCars_parkSent (s : State) (w : CommandFrame) :
    forCars parkSent (s.handed w) = (s.handed w).allChanged (s.followed w) .parkSent ∧
      CarsRun (s.handed w) ((s.handed w).allChanged (s.followed w) .parkSent) :=
  foldl_turns_congr (f := fun t c => parkSent c t) (keep := CarsRun (s.handed w)) (start := s.computed)
    (fun _ _ ht hc => parkSent_eq ht hc)
    (fun _ c ht hc => ht.trans (carChanged_runs .parkSent (by rw [hc]; exact followed_state s w c)))
    (fun _ _ _ hd => carChanged_other _ _ _ hd) allCars (s.handed w) nodup_allCars (.refl _)
    fun c _ => handed_channel s w c

/-! ## The two kinds of period -/

/-- R118: a period that is skipped, before its ageing. -/
def State.skipped (s : State) : State :=
  (s.setCounters { s.counters with commandSkips := bump s.counters.commandSkips }).setDemand
    { s.demand with timer := some s.profile.commandPeriod }

/-- R118: a frame still waits. -/
theorem commandExpiry_skips {s : State} (h : s.ports.waiting.isSome = true) :
    commandExpiry s = ageAll s.skipped := by
  have hwaiting : (restartTimer s).ports.waiting.isSome = true := h
  simp only [commandExpiry, if_pos hwaiting]
  rfl

/-- R118, R119: no frame waits. -/
theorem commandExpiry_computes {s : State} (h : s.ports.waiting = none) :
    commandExpiry s = ageAll s.period := by
  have hwaiting : ¬(restartTimer s).ports.waiting.isSome = true := by
    simp [restartTimer, h]
  simp only [commandExpiry, if_neg hwaiting, computePeriod, buildCommand, forCars_computeCar,
    handFrame_moved h, (forCars_parkSent s s.builtFrame).1]
  rfl

/-- What an expiry and its cars may change, read off the two records that may. -/
theorem eq_of_periodFields {s t : State} {d : Demand} {k : Cars} (h : SameBut periodFields s t)
    (hdemand : t.demand = d) (hcars : t.cars = k) :
    t = (((s.setPorts t.ports).setCounters t.counters).setDemand d).setCars k := by
  subst hdemand hcars
  refine SameBut.eq_of_nil fun f _ => ?_
  have hsame := h f
  cases f
  case ports => rfl
  case counters => rfl
  case demand => rfl
  case cars => rfl
  all_goals exact hsame (by decide)

theorem period_runs (s : State) : CarsRun (s.handed s.builtFrame) s.period :=
  (forCars_parkSent s s.builtFrame).2

theorem period_channel (s : State) (c : Car) : s.period.channel c = s.followed s.builtFrame c :=
  allChanged_channel _ _ _ c

theorem period_demand (s : State) : s.period.demand = s.stored.demand := by
  have hhanded : s.period.demand = (s.handed s.builtFrame).demand :=
    (period_runs s).frame .demand (by decide)
  exact hhanded.trans (moved_demand s)

theorem period_frame (s : State) : SameBut periodFields s s.period :=
  ((moved_frame s).trans (((setPorts_frame _ _).mono (by decide)).trans
    ((setCars_frame _ _).mono (by decide)))).trans ((period_runs s).frame.mono (by decide))

theorem period_cars (s : State) : s.period.cars =
    { s.cars with channels := s.period.cars.channels, commandSeq := s.cars.commandSeq + 1,
                  lastHanded := s.builtFrame.entries } := by
  have horder : s.period.cars.order = s.cars.order := (period_runs s).order.trans (moved_kept s).order
  have hCommand : s.period.cars.commandSeq = s.cars.commandSeq + 1 := (period_runs s).commandSeq
  have hentries : s.period.cars.lastHanded = s.builtFrame.entries := (period_runs s).entries
  change s.period.cars =
    ⟨s.period.cars.channels, s.cars.order, s.cars.commandSeq + 1, s.builtFrame.entries⟩
  rw [← horder, ← hCommand, ← hentries]

theorem period_skips (s : State) : s.period.counters.commandSkips = s.counters.commandSkips :=
  (period_runs s).skips.trans (moved_kept s).skips

/-- R143: the aft port after the frame has been handed. -/
theorem period_aft {s : State} (h : s.ports.waiting = none) :
    (s.ports.aftTx = none → s.period.ports.aftTx = some (s.builtFrame.frame s.nodeAddress) ∧
      s.period.ports.waiting = none) ∧
    (s.ports.aftTx ≠ none → s.period.ports.aftTx = s.ports.aftTx ∧
      s.period.ports.waiting = some s.builtFrame) ∧
    s.period.ports.aftQueue = s.ports.aftQueue ∧ s.period.ports.aftSeq = s.ports.aftSeq + 1 := by
  have hruns := period_runs s
  have hTx := (moved_kept s).aftTx
  have hQueue := (moved_kept s).aftQueue
  have hwaiting := moved_waiting h
  rw [hruns.aftTx, hruns.same, hruns.aftQueue, hruns.aftSeq]
  unfold State.handed
  by_cases hfree : s.ports.aftTx = none
  · simp only [if_pos hfree]
    exact ⟨fun _ => ⟨rfl, hwaiting⟩, fun hbusy => absurd hfree hbusy, hQueue, rfl⟩
  · simp only [if_neg hfree]
    exact ⟨fun hTxNone => absurd hTxNone hfree, fun _ => ⟨hTx, rfl⟩, hQueue, rfl⟩

/-- What no expiry changes in the demand engine and the cars. -/
theorem commandExpiry_keeps (s : State) :
    (commandExpiry s).demand =
      { s.demand with timer := some s.profile.commandPeriod, last := (commandExpiry s).demand.last } ∧
    (commandExpiry s).cars.order = s.cars.order := by
  cases hw : s.ports.waiting with
  | some w =>
    rw [commandExpiry_skips (by rw [hw]; rfl), (ageAll_kept _).demand, (ageAll_kept _).order]
    exact ⟨rfl, rfl⟩
  | none =>
    rw [commandExpiry_computes hw, (ageAll_kept _).demand, (ageAll_kept _).order, period_demand]
    exact ⟨rfl, (period_runs s).order.trans (moved_kept s).order⟩

/-! ## The entries of the frame -/

/-- R144: the entry of a channel record as the statement writes it. -/
theorem channelEntry_eq (x : CarChannel) :
    channelEntry x =
      if x.state = .following ∨ x.state = .centring then { mode := .tilt, angle := x.thetaPrev }
      else if x.state = .hold then { mode := .hold, angle := x.thetaPrev }
      else { mode := .park, angle := 0 } := by
  obtain ⟨st, _⟩ := x
  cases st <;> rfl

theorem allCars_rise : allCars.Pairwise (· < ·) := by decide

/-- R144: the lowest enabled position of a unit gives its entry. -/
theorem positionOf_lowest {s : State} {c : Car} (hon : s.enabled c = true)
    (hlowest : ∀ d, s.enabled d = true → s.unitOf d = s.unitOf c → c ≤ d) :
    s.positionOf (s.unitOf c) = some c := by
  cases hfind : s.positionOf (s.unitOf c) with
  | none =>
    have hnot := List.find?_eq_none.1 hfind c (mem_allCars c)
    simp [hon] at hnot
  | some d =>
    obtain ⟨hd, before, after, hsplit, hbefore⟩ := List.find?_eq_some_iff_append.1 hfind
    simp only [Bool.and_eq_true, decide_eq_true_eq] at hd
    have hle := hlowest d hd.1 hd.2
    have hmem : c ∈ before ++ d :: after := hsplit ▸ mem_allCars c
    have hrise : (before ++ d :: after).Pairwise (· < ·) := hsplit ▸ allCars_rise
    rcases List.mem_append.1 hmem with hc | hc
    · simpa [hon] using hbefore c hc
    · rcases List.mem_cons.1 hc with rfl | hc
      · rfl
      · have hlt := List.rel_of_pairwise_cons (List.pairwise_append.1 hrise).2.1 hc
        exact absurd hle (not_le.2 hlt)

theorem unitEntry_safe {s : State} (h : s.executor.opState = .safe) (u : UnitId) :
    unitEntry s u = .parked := by
  simp only [unitEntry, h]

theorem unitEntry_position {s : State} (h : s.executor.opState ≠ .safe) (u : UnitId) :
    unitEntry s u = match s.positionOf u with
      | some c => channelEntry (s.channel c)
      | none => .parked := by
  unfold unitEntry
  split
  · rename_i hsafe
    exact absurd hsafe h
  · rfl

theorem builtFrame_entry (s : State) (u : UnitId) : s.builtFrame.entries[u] = unitEntry s.moved u :=
  tabulate_get _ u

theorem builtFrame_safe {s : State} (h : s.executor.opState = .safe) (u : UnitId) :
    s.builtFrame.entries[u] = .parked := by
  rw [builtFrame_entry]
  exact unitEntry_safe (by rw [moved_executor]; exact h) u

/-- R144: outside SAFE, the entry of a unit is that of its lowest enabled position as computed. -/
theorem builtFrame_lowest {s : State} {c : Car} (h : s.executor.opState ≠ .safe)
    (hon : s.enabled c = true) (hlowest : ∀ d, s.enabled d = true → s.unitOf d = s.unitOf c → c ≤ d) :
    s.builtFrame.entries[s.unitOf c] = channelEntry (s.computed c) := by
  have hposition : s.moved.positionOf (s.unitOf c) = some c := by
    rw [← moved_unitOf]
    refine positionOf_lowest (by rw [moved_enabled]; exact hon) fun d hd hunit => ?_
    rw [moved_enabled] at hd
    rw [moved_unitOf, moved_unitOf] at hunit
    exact hlowest d hd hunit
  rw [builtFrame_entry, unitEntry_position (by rw [moved_executor]; exact h), hposition]
  exact congrArg channelEntry (moved_channel s c)

/-- R144: outside SAFE, the entry of a unit that no enabled position maps to is PARK. -/
theorem builtFrame_unmapped {s : State} {u : UnitId} (h : s.executor.opState ≠ .safe)
    (hunmapped : ∀ c, s.enabled c = true → s.unitOf c ≠ u) : s.builtFrame.entries[u] = .parked := by
  have hposition : s.moved.positionOf u = none := by
    refine List.find?_eq_none.2 fun c _ hc => ?_
    simp only [moved_enabled, moved_unitOf, Bool.and_eq_true, decide_eq_true_eq] at hc
    exact hunmapped c hc.1 hc.2
  rw [builtFrame_entry, unitEntry_position (by rw [moved_executor]; exact h), hposition]

/-! ## The settled obligations -/

theorem exec_commandTimerExpiry {s : State} (h : s.pins.coldReset = false) :
    exec .commandTimerExpiry s = .next (commandExpiry s) := by
  rw [exec_event rfl, unlessReset_running h]

/-- Settles O27: a skipped period is its ageing alone; a computed one is the reported change of each car to
its computed record, the frame, and the reported change of the held cars that it frees. -/
theorem commandTimerExpires : Obligations.CommandTimerExpires := by
  intro s hrunning
  refine ⟨commandExpiry s, exec_commandTimerExpiry hrunning, ?_⟩
  intro timed
  obtain ⟨hdemand, horder⟩ := commandExpiry_keeps s
  refine ⟨eq_of_periodFields (commandExpiry_frame s) hdemand (by rw [← horder]), fun hwaiting => ?_,
    fun hnone => ?_⟩
  · rw [commandExpiry_skips hwaiting]
    have hkept := ageAll_kept s.skipped
    have hlast : (ageAll s.skipped).demand.last = s.skipped.demand.last := by rw [hkept.demand]
    exact ⟨rfl, hlast, hkept.commandSeq, hkept.aftSeq, hkept.skips,
      fun c hc => ageAll_angle _ c hc⟩
  · intro computed entry followed stored moved handed
    obtain ⟨hfree, hbusy, hQueue, hSeq⟩ := period_aft hnone
    have hkept := ageAll_kept s.period
    rw [commandExpiry_computes hnone]
    refine ⟨s.builtFrame, s.period, rfl, rfl, rfl, rfl, builtFrame_safe,
      fun hop => ⟨fun c hon hlowest => ?_, fun u => builtFrame_unmapped hop⟩, hfree, hbusy, hQueue, hSeq,
      period_skips s, period_channel s, fun c => ?_, ?_, ?_, hkept.aftSeq.trans hSeq,
      hkept.skips.trans (period_skips s), congrArg Demand.last hkept.demand⟩
    · rw [builtFrame_lowest hop hon hlowest, channelEntry_eq]
      rfl
    · rw [period_demand]
      exact tabulate_get _ c
    · exact eq_of_periodFields (period_frame s) (by rw [period_demand]; rfl) (period_cars s)
    · rw [hkept.commandSeq, period_cars]

/-- R144: a unit that is sent TILT or HOLD is sent the angle of a moving car. -/
theorem channelEntry_moving {x : CarChannel} (h : (channelEntry x).mode ≠ .park) :
    (channelEntry x).angle = x.thetaPrev ∧ x.state.moving = true := by
  obtain ⟨st, _⟩ := x
  cases st
  case following => exact ⟨rfl, rfl⟩
  case centring => exact ⟨rfl, rfl⟩
  case hold => exact ⟨rfl, rfl⟩
  all_goals exact absurd rfl h

/-- R126, R145: the entry that a computed car's record gives stands at most a rate step from the angle the
car had. -/
theorem computed_entry_step (s : State) (c : Car)
    (hmode : (channelEntry (s.computed c)).mode ≠ .park) :
    ((channelEntry (s.computed c)).angle - (s.channel c).thetaPrev).natAbs ≤ (s.carProfile c).rateStep ∧
    (s.channel c).state.moving = true := by
  obtain ⟨hangle, hmoving⟩ := channelEntry_moving hmode
  rw [hangle]
  by_cases hdriven : (s.channel c).state.driven
  · rw [computed_driven hdriven, computation_angle]
    refine ⟨(rateAngle_within _ _ _).1, ?_⟩
    rcases hdriven with e | e <;> rw [e] <;> rfl
  · rw [computed_undriven hdriven] at hmoving ⊢
    exact ⟨by simp, hmoving⟩

/-- Settles O30: an entry handed is that of the frame, or PARK where the ageing has rewritten it; the angle
of a moving car is the one its unit was last handed. -/
theorem commandAnglesStepAtMostRate : Obligations.CommandAnglesStepAtMostRate := by
  intro s _ hhanded hrunning hnone
  obtain ⟨hdistinct, -, -, -, -, hlast⟩ := hhanded
  refine ⟨commandExpiry s, exec_commandTimerExpiry hrunning, ?_⟩
  rw [commandExpiry_computes hnone]
  have hentries : s.period.cars.lastHanded = s.builtFrame.entries := (period_runs s).entries
  have hentry : ∀ u : UnitId, (ageAll s.period).cars.lastHanded[u] = s.builtFrame.entries[u] ∨
      (ageAll s.period).cars.lastHanded[u] = .parked := by
    rw [← hentries]
    exact (ageAll_kept s.period).handed
  refine ⟨fun c hon hmode => ?_, fun hsafe u => ?_⟩
  · rcases hentry (s.unitOf c) with e | e
    · rw [e] at hmode ⊢
      have hop : s.executor.opState ≠ .safe := fun hsafe => hmode (by rw [builtFrame_safe hsafe]; rfl)
      rw [builtFrame_lowest hop hon fun d hd hunit => (hdistinct hop d c hd hon hunit).ge] at hmode ⊢
      obtain ⟨hstep, hmoving⟩ := computed_entry_step s c hmode
      rw [hlast c hmoving]
      exact hstep
    · exact absurd (by rw [e]; rfl) hmode
  · rcases hentry u with e | e
    · rw [e]
      exact builtFrame_safe hsafe u
    · exact e

end Sys2Proof.Machine
end

section
/-! A unit status taken by a car and the ageing of the cars, each as reported changes of channel records
(R115, R131 to R137, R145). -/

set_option Elab.async false

namespace Sys2Proof.Machine

/-! ## Changes of a record -/

/-- R115, R133, R145: the record of a car that enters FAILED. -/
def CarChannel.fails (x : CarChannel) : CarChannel :=
  { x with state := .failed, thetaPrev := 0, run := 0, parkHeld := false }

/-- R145: a car that was not FAILED enters FAILED, with its report. -/
theorem carChanged_fails {c : Car} {s : State} (cause : CarCause) (h : (s.channel c).state ≠ .failed) :
    carReport c (s.channel c).state cause (enterStill c .failed s) =
      s.carChanged c (s.channel c).fails cause := by
  rw [carChanged_still cause h.symm (.inr (.inr rfl)), enterStill_channel]
  rfl

/-- A record replaced by one of the same channel state plays no part in a later change. -/
theorem carChanged_setChannel {c : Car} {x : CarChannel} {s : State} (y : CarChannel) (cause : CarCause)
    (h : x.state = (s.channel c).state) :
    (setChannel c x s).carChanged c y cause = s.carChanged c y cause := by
  have hset : setChannel c y (setChannel c x s) = setChannel c y s := setChannel_setChannel c x y s
  have hset' : (setChannel c x s).setCars
      { (setChannel c x s).cars with channels := (setChannel c x s).cars.channels.set c y } =
        s.setCars { s.cars with channels := s.cars.channels.set c y } := hset
  simp only [State.carChanged, setChannel_same, h, hset']
  rfl

/-! ## Unit status -/

/-- R132 first: the record with a status taken into it. -/
def CarChannel.heard (u : UnitState) (actual : Int) (echo : Word16) (x : CarChannel) : CarChannel :=
  { x with age := 0, lastState := some u, lastActual := some actual, lastEcho := some echo }

/-- R134: the actual angle lies beyond the tracking limit. -/
abbrev CarChannel.lags (limit : Nat) (actual : Int) (x : CarChannel) : Prop :=
  limit < (actual - x.thetaPrev).natAbs

/-- R134: the status fails a FOLLOWING car by its tracking run. -/
abbrev CarChannel.lost (l : LineProfile) (actual : Int) (x : CarChannel) : Prop :=
  x.state = .following ∧ x.lags l.trackingLimit actual ∧ l.trackingCount ≤ x.run + 1

/-- R134: the record of a car that the tracking test does not fail. -/
def CarChannel.tracked (limit : Nat) (actual : Int) (x : CarChannel) : CarChannel :=
  if x.state = .following then { x with run := if x.lags limit actual then x.run + 1 else 0 } else x

/-- R133: what a unit state makes of a record. -/
def CarChannel.acted (op : OpState) (u : UnitState) (x : CarChannel) : CarChannel :=
  match u with
  | .ready =>
    if x.state = .hold then
      match op with
      | .active => { x with state := .following, run := 0, parkHeld := false }
      | .standby => { x with state := .centring }
      | .safe => x
    else x
  | .busy => if x.state = .following ∨ x.state = .centring then { x with state := .hold } else x
  | .fault => if x.state = .off ∨ x.state = .failed then x else x.fails

/-- R137: the cause of a change made by a unit state. -/
def UnitState.cause : UnitState → CarCause
  | .ready => .unitReady
  | .busy => .unitBusy
  | .fault => .unitFault

/-- R133: the change of channel state that a unit state makes. -/
theorem unitStateAct_eq (c : Car) (u : UnitState) (s : State) :
    unitStateAct c u s =
      s.carChanged c ((s.channel c).acted s.executor.opState u) u.cause := by
  have hsame : s = s.carChanged c (s.channel c) u.cause := (carChanged_self c u.cause s).symm
  cases u with
  | ready =>
    simp only [unitStateAct, CarChannel.acted]
    split
    · rename_i hhold
      cases s.executor.opState with
      | active => exact (carChanged_running _ (by simp [hhold]) (by simp)).symm
      | standby => exact (carChanged_running _ (by simp [hhold]) (by simp)).symm
      | safe => exact hsame
    · exact hsame
  | busy =>
    simp only [unitStateAct, CarChannel.acted]
    split
    · rename_i htilting
      refine (carChanged_running _ ?_ (by simp)).symm
      rcases htilting with e | e <;> simp [e]
    · exact hsame
  | fault =>
    simp only [unitStateAct, CarChannel.acted]
    split
    · exact hsame
    · rename_i hon
      exact carChanged_fails _ fun e => hon (.inr e)

/-- R134: the tracking test of a FOLLOWING car. -/
theorem trackingTest_eq {c : Car} {actual : Int} {s : State} (h : (s.channel c).state = .following) :
    trackingTest c actual s =
      if (s.channel c).lost s.profile actual then s.carChanged c (s.channel c).fails .tracking
      else setChannel c ((s.channel c).tracked s.profile.trackingLimit actual) s := by
  have hfails := carChanged_fails (c := c) (s := s) .tracking (by simp [h])
  unfold trackingTest CarChannel.tracked
  dsimp only
  by_cases hlags : (s.channel c).lags s.profile.trackingLimit actual
  · rw [if_pos (by simpa [beyondLimit] using hlags), hfails]
    simp only [CarChannel.lost, h, hlags, true_and, if_true]
  · rw [if_neg (by simpa [beyondLimit] using hlags)]
    simp only [CarChannel.lost, h, hlags, false_and, and_false, if_false, if_true]

/-- R132 to R134: the record that a taken status leaves. -/
def State.answeredStatus (s : State) (c : Car) (u : UnitState) (actual : Int) (echo : Word16) :
    CarChannel :=
  let x := (s.channel c).heard u actual echo
  if (s.channel c).lost s.profile actual then x.fails
  else (x.tracked s.profile.trackingLimit actual).acted s.executor.opState u

/-- R137: the cause of the change that a taken status makes. -/
def State.statusCause (s : State) (c : Car) (u : UnitState) (actual : Int) : CarCause :=
  if (s.channel c).lost s.profile actual then .tracking else u.cause

/-- R132: a taken status is one reported change of the car's record. -/
theorem takeStatus_eq (c : Car) (u : UnitState) (actual : Int) (echo : Word16) (s : State) :
    takeStatus c u actual echo s =
      s.carChanged c (s.answeredStatus c u actual echo) (s.statusCause c u actual) := by
  obtain ⟨t, ht⟩ : ∃ t, t = recordStatus c u actual echo s := ⟨_, rfl⟩
  have hx : t.channel c = (s.channel c).heard u actual echo := ht ▸ setChannel_same _ _ _
  have hprofile : t.profile = s.profile := ht ▸ rfl
  have hexecutor : t.executor = s.executor := ht ▸ rfl
  have hrecorded : ∀ y cause, t.carChanged c y cause = s.carChanged c y cause :=
    fun y cause => ht ▸ carChanged_setChannel y cause rfl
  have hlost : (t.channel c).lost t.profile actual ↔ (s.channel c).lost s.profile actual := by
    rw [hx, hprofile]
    rfl
  unfold takeStatus State.answeredStatus State.statusCause
  rw [← ht]
  dsimp only
  by_cases hfollowing : (t.channel c).state = .following
  · rw [if_pos hfollowing, trackingTest_eq hfollowing]
    by_cases h : (t.channel c).lost t.profile actual
    · rw [if_pos h, if_pos (by rw [carChanged_channel]; rfl), if_pos (hlost.1 h), if_pos (hlost.1 h),
        hrecorded, hx]
    · have htracked : ((t.channel c).tracked t.profile.trackingLimit actual).state =
          (t.channel c).state := by
        unfold CarChannel.tracked
        split <;> rfl
      rw [if_neg h, if_neg (by rw [setChannel_same, htracked, hfollowing]; simp),
        if_neg (mt hlost.2 h), if_neg (mt hlost.2 h), unitStateAct_eq, setChannel_same,
        carChanged_setChannel _ _ htracked, hrecorded, hx, hprofile, ← hexecutor]
      rfl
  · have hnot : ¬(s.channel c).lost s.profile actual := fun h => hfollowing (hx ▸ h.1)
    have htracked : ((s.channel c).heard u actual echo).tracked s.profile.trackingLimit actual =
        t.channel c := by
      rw [CarChannel.tracked, if_neg (hx ▸ hfollowing), hx]
    rw [if_neg hfollowing, if_neg hnot, if_neg hnot, unitStateAct_eq, hrecorded, htracked, hexecutor]

/-- Settles O28: a taken status is one reported change, to the record of the table of R133 and R134. -/
theorem statusActsOnCar : Obligations.StatusActsOnCar := by
  intro c u actual echo s x t lags after fails y cause
  have hy : s.answeredStatus c u actual echo = y := by
    subst y fails after lags x
    simp only [State.answeredStatus, CarChannel.tracked, CarChannel.heard, CarChannel.acted,
      CarChannel.fails]
    generalize s.channel c = x
    obtain ⟨st, theta, lastState, lastActual, lastEcho, age, run, held⟩ := x
    cases st
    case following =>
      by_cases hlags : s.profile.trackingLimit < (actual - theta).natAbs
      · by_cases hcount : s.profile.trackingCount ≤ run + 1
        · simp [hlags, hcount]
        · cases u <;> simp [hlags, hcount]
      · cases u <;> simp [hlags]
    case hold => cases u <;> cases s.executor.opState <;> simp
    all_goals cases u <;> simp
  have hcause : s.statusCause c u actual = cause := by
    cases u <;> rfl
  have ht : t = s.carChanged c y cause := by
    rw [← hy, ← hcause]
    exact takeStatus_eq c u actual echo s
  exact ⟨by rw [ht, carChanged_channel], fun d hd => by rw [ht, carChanged_other _ _ _ hd], ht⟩

end Sys2Proof.Machine
end

section
/-! The ageing of the cars (R135, R137, R145): first every car ages, then each takes the record of its age,
reported where its channel state changes. -/

set_option Elab.async false

namespace Sys2Proof.Machine

/-! ## Changes of channel records alone -/

/-- Channel records in the place of those of `s`. -/
def State.withChannels (s : State) (x : Car → CarChannel) : State :=
  s.setCars { s.cars with channels := tabulate x }

theorem vector_eq_tabulate {α : Type} {v : Vector α 12} {f : Fin 12 → α} (h : ∀ i, v[i] = f i) :
    v = tabulate f :=
  Vector.ext fun i hi => (h ⟨i, hi⟩).trans (tabulate_get f ⟨i, hi⟩).symm

/-- Nothing but channel records of the two states differs. -/
structure ChannelsOnly (s t : State) : Prop where
  frame : SameBut [.cars] s t
  order : t.cars.order = s.cars.order
  commandSeq : t.cars.commandSeq = s.cars.commandSeq
  lastHanded : t.cars.lastHanded = s.cars.lastHanded

theorem ChannelsOnly.refl (s : State) : ChannelsOnly s s := ⟨.refl _ s, rfl, rfl, rfl⟩

theorem ChannelsOnly.trans {s t u : State} (h : ChannelsOnly s t) (k : ChannelsOnly t u) :
    ChannelsOnly s u where
  frame := h.frame.trans k.frame
  order := k.order.trans h.order
  commandSeq := k.commandSeq.trans h.commandSeq
  lastHanded := k.lastHanded.trans h.lastHanded

theorem setChannel_only (c : Car) (x : CarChannel) (s : State) : ChannelsOnly s (setChannel c x s) :=
  ⟨setChannel_frame c x s, rfl, rfl, rfl⟩

theorem forCars_only {f : Car → State → State} (h : ∀ c t, ChannelsOnly t (f c t)) (s : State) :
    ChannelsOnly s (forCars f s) :=
  forCars_keeps (p := ChannelsOnly s) (fun c t ht => ht.trans (h c t)) s (.refl s)

theorem ChannelsOnly.eq {s t : State} {x : Car → CarChannel} (h : ChannelsOnly s t)
    (hx : ∀ c, t.channel c = x c) : t = s.withChannels x := by
  have hcars : t.cars = { s.cars with channels := tabulate x } := by
    rw [← vector_eq_tabulate hx]
    change t.cars = ⟨t.cars.channels, s.cars.order, s.cars.commandSeq, s.cars.lastHanded⟩
    rw [← h.order, ← h.commandSeq, ← h.lastHanded]
  rw [State.withChannels, ← hcars]
  refine SameBut.eq_of_nil fun f _ => ?_
  have hsame := h.frame f
  cases f
  case cars => rfl
  all_goals exact hsame (by decide)

theorem withChannels_channel (s : State) (x : Car → CarChannel) (c : Car) :
    (s.withChannels x).channel c = x c := tabulate_get x c

/-! ## The ages -/

/-- R135: the record of a car one period older. -/
def CarChannel.older (x : CarChannel) : CarChannel :=
  { x with age := if x.state = .off then x.age else ageUp x.age }

theorem ageCar_eq (c : Car) (s : State) : ageCar c s = setChannel c (s.channel c).older s := by
  unfold ageCar CarChannel.older
  dsimp only
  split
  · exact (setChannel_self c s).symm
  · rfl

/-- R135: every car that is not OFF ages. -/
theorem forCars_ageCar (s : State) :
    forCars ageCar s = s.withChannels fun c => (s.channel c).older := by
  have hown : ∀ c t, (ageCar c t).channel c = (t.channel c).older := fun c t => by
    rw [ageCar_eq, setChannel_same]
  have honly := forCars_only (f := ageCar) (fun c t => ageCar_eq c t ▸ setChannel_only _ _ t) s
  exact honly.eq fun c => forCars_channel (keep := fun _ => True) (g := fun _ => CarChannel.older)
    (fun _ _ _ => trivial) (fun c t _ => hown c t) (fun c d t _ => ageCar_other c d t) s trivial c

/-! ## The changes that age makes -/

/-- R135: the record that a car's age leaves it. -/
def CarChannel.timed (l : LineProfile) (x : CarChannel) : CarChannel :=
  if (x.state = .following ∨ x.state = .centring) ∧ l.holdCount ≤ x.age then
    if l.failCount ≤ x.age then x.fails else { x with state := .hold }
  else if x.state = .hold ∧ l.failCount ≤ x.age then x.fails else x

/-- R137: the cause of a change that age makes. -/
def CarChannel.ageCause (x : CarChannel) : CarCause := if x.state = .failed then .ageFail else .ageHold

/-- R135: one car's turn is one reported change of its record. -/
theorem ageTest_eq (c : Car) (s : State) :
    ageTest c s = s.carChanged c ((s.channel c).timed s.profile)
      ((s.channel c).timed s.profile).ageCause := by
  unfold ageTest CarChannel.timed
  dsimp only
  split
  · rename_i htilting
    have hstate : (s.channel c).state ≠ .failed ∧ (s.channel c).state ≠ .hold := by
      rcases htilting.1 with e | e <;> simp [e]
    split
    · exact carChanged_fails .ageFail hstate.1
    · exact (carChanged_running .ageHold hstate.2.symm (by simp)).symm
  · split
    · rename_i hhold
      exact carChanged_fails .ageFail (by simp [hhold.1])
    · exact (carChanged_self c _ s).symm

/-- R135: the ageing, its changes in rising order of position. -/
theorem ageAll_eq (s : State) :
    ageAll s = allCars.foldl (fun u c => u.carChanged c ((s.channel c).older.timed s.profile)
        ((s.channel c).older.timed s.profile).ageCause)
      (s.withChannels fun c => (s.channel c).older) := by
  rw [ageAll, forCars_ageCar]
  refine (foldl_turns_congr (f := fun t c => ageTest c t) (keep := fun t => t.profile = s.profile)
    (start := fun c => (s.channel c).older) (fun t c hprofile hc => ?_) (fun t c hprofile _ => ?_)
    (fun _ _ _ => carChanged_other _ _ _) allCars (s.withChannels fun c => (s.channel c).older)
    nodup_allCars rfl fun c _ => withChannels_channel s _ c).1
  · rw [ageTest_eq, hc, hprofile]
  · exact ((carChanged_kept c _ _ t).frame .profile (by decide)).trans hprofile

theorem ageAll_channel (s : State) (c : Car) :
    (ageAll s).channel c = (s.channel c).older.timed s.profile := by
  rw [ageAll_eq]
  exact forCars_channel (keep := fun _ => True)
    (f := fun c u => u.carChanged c ((s.channel c).older.timed s.profile)
      ((s.channel c).older.timed s.profile).ageCause)
    (g := fun c _ => (s.channel c).older.timed s.profile) (fun _ _ _ => trivial)
    (fun c t _ => carChanged_channel c _ _ t) (fun c d t _ => carChanged_other _ _ t) _ trivial c

/-- Settles O29: the ages first, and then each car's turn as one reported change of its record. -/
theorem ageingHoldsThenFails : Obligations.AgeingHoldsThenFails := by
  intro s age after aged grown
  have haged : ∀ x : CarChannel, x.older.timed s.profile = aged x := by
    intro x
    subst aged after age
    simp only [CarChannel.timed, CarChannel.older, ageUp, CarChannel.fails]
    obtain ⟨st, theta, lastState, lastActual, lastEcho, n, run, held⟩ := x
    obtain ⟨m, hm⟩ : ∃ m, (if n < 255 then n + 1 else n) = m := ⟨_, rfl⟩
    cases st
    case following | centring =>
      by_cases hhold : s.profile.holdCount ≤ m
      · by_cases hfail : s.profile.failCount ≤ m <;> simp [hm, hhold, hfail]
      · simp [hm, hhold]
    case hold => by_cases hfail : s.profile.failCount ≤ m <;> simp [hm, hfail]
    all_goals simp
  have hcause : ∀ x : CarChannel, (if after x = .failed then CarCause.ageFail else .ageHold) =
      (x.older.timed s.profile).ageCause := by
    intro x
    have hstate : (aged x).state = after x := by
      simp only [aged]
      split
      · rename_i hfails
        exact hfails.1.symm
      · rfl
    rw [haged, CarChannel.ageCause, hstate]
  have hgrown : s.withChannels (fun c => (s.channel c).older) = grown := rfl
  refine ⟨fun c => by rw [ageAll_channel, haged], ?_⟩
  simp only [hcause, ← haged, ← hgrown]
  exact ageAll_eq s

end Sys2Proof.Machine
end

section
/-! What the blocks leave of a COMMAND frame that waits at the arbiter (R11, R145): only the car supervisor
hands one or rewrites it, so that reports and everything behind them leave it as it is. -/

set_option Elab.async false

namespace Sys2Proof.Machine

theorem SameBut.waiting {fs : List Field} {s t : State} (h : SameBut fs s t)
    (hf : Field.ports ∉ fs := by decide) : t.ports.waiting = s.ports.waiting :=
  congrArg Ports.waiting (h .ports hf)

/-- One after another: what every turn leaves of the waiting frame, all of them leave. -/
theorem foldl_waiting {α : Type} {f : State → α → State}
    (h : ∀ t a, (f t a).ports.waiting = t.ports.waiting) (l : List α) (s : State) :
    (l.foldl f s).ports.waiting = s.ports.waiting := by
  induction l generalizing s with
  | nil => rfl
  | cons a l ih => exact (ih (f s a)).trans (h s a)

theorem forCars_waiting {f : Car → State → State}
    (h : ∀ c t, (f c t).ports.waiting = t.ports.waiting) (s : State) :
    (forCars f s).ports.waiting = s.ports.waiting :=
  forCars_keeps (p := fun t => t.ports.waiting = s.ports.waiting) (fun c t ht => (h c t).trans ht) s rfl

@[simp] theorem offerReport_waiting (r : Report) (s : State) :
    (offerReport r s).ports.waiting = s.ports.waiting := by
  obtain ⟨-, -, -, hwaiting, -⟩ := offerReport_ports r s
  exact hwaiting

/-! ## Capture and banks -/

@[simp] theorem beginCapture_waiting (m : CapMode) (src : CapSource) (c : Option Car) (n : Option Nat)
    (x y : Int) (s : State) : (beginCapture m src c n x y s).ports.waiting = s.ports.waiting := by
  simp [beginCapture, offerCapture]

@[simp] theorem regimeTrigger_waiting (c : Car) (n : Nat) (s : State) :
    (regimeTrigger c n s).ports.waiting = s.ports.waiting := by
  unfold regimeTrigger
  split <;> simp [beginRelative]

@[simp] theorem overtakingTest_waiting (s : State) :
    (overtakingTest s).ports.waiting = s.ports.waiting := by
  unfold overtakingTest
  split <;> simp [offerCapture]

@[simp] theorem captureClear_waiting (s : State) :
    (captureClear s).ports.waiting = s.ports.waiting := by
  unfold captureClear
  split <;> simp [offerCapture]

@[simp] theorem freePassed_waiting (bank : Bank) (s : State) :
    (freePassed bank s).ports.waiting = s.ports.waiting := by
  simp [freePassed, offerRoute, setBankState, setBank]

@[simp] theorem freeCleared_waiting (bank : Bank) (s : State) :
    (freeCleared bank s).ports.waiting = s.ports.waiting := by
  unfold freeCleared
  split <;> simp [offerRoute, setBankState, setBank]

@[simp] theorem startBank_waiting (bank : Bank) (n : Nat) (c : RouteCause)
    (a : Option (MarkerClass × Byte)) (s : State) :
    (startBank bank n c a s).ports.waiting = s.ports.waiting := by
  simp [startBank, offerRoute, setBank]

@[simp] theorem chainOrUnknown_waiting (bank : Bank) (s : State) :
    (chainOrUnknown bank s).ports.waiting = s.ports.waiting := by
  unfold chainOrUnknown
  split <;> simp [offerRoute]

@[simp] theorem takeNotices_waiting (s : State) : (takeNotices s).ports.waiting = s.ports.waiting :=
  foldl_waiting (fun t bank => freePassed_waiting bank t) _ _

/-! ## The marker queue -/

@[simp] theorem dropEmptied_waiting (w : Bool) (s : State) :
    (dropEmptied w s).ports.waiting = s.ports.waiting := by
  have htell : ∀ t bank, (tellRoute w bank t).ports.waiting = t.ports.waiting := fun t bank => by
    unfold tellRoute
    split <;> simp
  rw [dropEmptied_eq]
  exact foldl_waiting htell _ _

@[simp] theorem applyEntry_waiting (w : Bool) (c : Car) (n : Nat) (e : RegimeEntry) (s : State) :
    (applyEntry w c n e s).ports.waiting = s.ports.waiting := by
  rw [applyEntry_eq]
  split <;> simp [State.applied]

theorem carPass_waiting (w : Bool) (c : Car) (q : List Marker) (s : State) :
    (carPass w c q s).ports.waiting = s.ports.waiting := by
  induction q generalizing s with
  | nil => rfl
  | cons m q ih =>
    unfold carPass
    split
    · split
      · dsimp only
        split
        · rfl
        · rw [ih, applyEntry_waiting]
      · rfl
    · exact ih s

@[simp] theorem pass_waiting (w : Bool) (s : State) : (pass w s).ports.waiting = s.ports.waiting := by
  have hturn : ∀ c t, (passCar w c t).ports.waiting = t.ports.waiting := fun c t => by
    unfold passCar
    split
    · exact carPass_waiting _ _ _ _
    · rfl
  have harbiter : ∀ t, (arbiter t).ports.waiting = t.ports.waiting := fun t => by
    unfold arbiter
    split <;> simp
  rw [pass, harbiter, forCars_waiting hturn]

@[simp] theorem setQueue_waiting (q : List Marker) (s : State) :
    (setQueue q s).ports.waiting = s.ports.waiting := rfl

@[simp] theorem stopWaiting_waiting (c : Car) (s : State) :
    (stopWaiting c s).ports.waiting = s.ports.waiting := rfl

@[simp] theorem enqueue_waiting (k : MarkerKind) (cls : MarkerClass) (param : Byte) (cell : Nat)
    (bank : Option Bank) (s : State) :
    (enqueue k cls param cell bank s).ports.waiting = s.ports.waiting := rfl

@[simp] theorem withdraw_waiting (s : State) : (withdraw s).ports.waiting = s.ports.waiting := by
  unfold withdraw
  split <;> simp [offerAttentionEnd, emptyRecord]

@[simp] theorem markerClear_waiting (s : State) : (markerClear s).ports.waiting = s.ports.waiting := by
  rw [markerClear, pass_waiting, forCars_waiting stopWaiting_waiting, withdraw_waiting,
    setQueue_waiting]

@[simp] theorem markerDisable_waiting (c : Car) (s : State) :
    (markerDisable c s).ports.waiting = s.ports.waiting := by
  unfold markerDisable
  dsimp only
  rw [pass_waiting, stopWaiting_waiting]
  split <;> simp

@[simp] theorem endHold_waiting (hold : Attention) (e : RegimeEntry) (s : State) :
    (endHold hold e s).ports.waiting = s.ports.waiting := applyEntry_waiting _ _ _ _ s

theorem attentionExpiry_waiting (s : State) :
    (attentionExpiry s).ports.waiting = s.ports.waiting := by
  unfold attentionExpiry
  split
  · rfl
  · simp [offerAttentionEnd]

/-! ## Section ends, advances and clears -/

@[simp] theorem drainBank_waiting (bank : Bank) (s : State) :
    (drainBank bank s).ports.waiting = s.ports.waiting := by
  simp [drainBank, offerRoute, queueSectionEnd, setBankState, setBank]

@[simp] theorem endTest_waiting (s : State) : (endTest s).ports.waiting = s.ports.waiting := by
  have hchain : ∀ n (t : State), (endChain n t).ports.waiting = t.ports.waiting := by
    intro n
    induction n with
    | zero => exact fun t => rfl
    | succ n ih =>
      intro t
      unfold endChain
      split
      · rfl
      · rw [ih, chainOrUnknown_waiting, drainBank_waiting]
  rw [endTest, takeNotices_waiting, hchain]

@[simp] theorem offerAnchor_waiting (cls : MarkerClass) (param : Byte) (cell : Nat) (s : State) :
    (offerAnchor cls param cell s).ports.waiting = s.ports.waiting := by
  unfold offerAnchor
  split
  · rfl
  · split
    · simp
    · split <;> simp

theorem answerAdvance_waiting (s : State) (t : Task) :
    (answerAdvance t s).ports.waiting = s.ports.waiting := by
  cases t <;> simp [answerAdvance]

theorem answerClear_waiting (s : State) (t : Task) :
    (answerClear t s).ports.waiting = s.ports.waiting := by
  cases t <;> simp [answerClear, routeClear]

theorem answerAll_waiting {answer : Task → State → State}
    (h : ∀ t a, (answer a t).ports.waiting = t.ports.waiting) (due : Nat) (own : Option Report)
    (s : State) : (answerAll answer due own s).ports.waiting = s.ports.waiting := by
  obtain ⟨ts, n, e⟩ := answerAll_cases answer due own s
  rw [e]
  exact foldl_waiting h ts _

@[simp] theorem advance_waiting (k : Nat) (own : State → Option Report) (s : State) :
    (advance k own s).ports.waiting = s.ports.waiting := by
  unfold advance
  split
  · split <;> simp
  · exact answerAll_waiting answerAdvance_waiting _ _ _

@[simp] theorem lineClear_waiting (own : Option Report) (s : State) :
    (lineClear own s).ports.waiting = s.ports.waiting :=
  answerAll_waiting answerClear_waiting _ _ _

/-! ## Frames of the other blocks -/

@[simp] theorem slip_waiting (s : State) : (slip s).ports.waiting = s.ports.waiting := by
  unfold slip
  dsimp only
  split <;> simp

@[simp] theorem recover_waiting (k : Nat) (s : State) :
    (recover k s).ports.waiting = s.ports.waiting := by
  unfold recover
  split
  · split <;> simp
  · rfl

@[simp] theorem takeDelta_waiting (delta : Int) (s : State) :
    (takeDelta delta s).ports.waiting = s.ports.waiting := by
  unfold takeDelta
  split
  · simp
  · split
    · rfl
    · dsimp only
      split <;> simp

@[simp] theorem setReference_waiting (d : Distance) (v : Nat) (s : State) :
    (setReference d v s).ports.waiting = s.ports.waiting := rfl

theorem takeOdometry_waiting (d : Distance) (v : Nat) (slipped : Bool) (s : State) :
    (takeOdometry d v slipped s).ports.waiting = s.ports.waiting := by
  unfold takeOdometry
  split
  · unfold takeUnset
    dsimp only
    split <;> simp
  · unfold takeTracking
    dsimp only
    split <;> simp [setSpeed]
  · unfold takeLost
    dsimp only
    split <;> simp

theorem handleOdometry_waiting (p : List Byte) (s : State) :
    (handleOdometry p s).ports.waiting = s.ports.waiting := by
  unfold handleOdometry
  split
  · rfl
  · split
    · exact takeOdometry_waiting _ _ _ _
    · split
      · exact takeOdometry_waiting _ _ _ _
      · rfl

theorem odometryExpiry_waiting (s : State) : (odometryExpiry s).ports.waiting = s.ports.waiting := by
  unfold odometryExpiry
  dsimp only
  split
  · simp [setSpeed]
  · rfl

theorem handleMarker_waiting (p : List Byte) (s : State) :
    (handleMarker p s).ports.waiting = s.ports.waiting := by
  unfold handleMarker
  split
  · rfl
  · split
    · rfl
    · unfold offerMarker
      split
      · simp [refuseMarker]
      · simp [refuseMarker]
      · split
        · simp [refuseMarker]
        · split
          · simp [refuseMarker, setLoss]
          · simp [queueTrack]

@[simp] theorem reportPair_waiting (b : PairState) (c : SensorCause) (ch : Option Channel) (d : Nat)
    (s : State) : (reportPair b c ch d s).ports.waiting = s.ports.waiting := by
  unfold reportPair
  dsimp only
  split <;> simp

@[simp] theorem loseChannel_waiting (x : Channel) (c : SensorCause) (s : State) :
    (loseChannel x c s).ports.waiting = s.ports.waiting := by
  simp [loseChannel]

theorem handleSensor_waiting (x : Channel) (p : List Byte) (s : State) :
    (handleSensor x p s).ports.waiting = s.ports.waiting := by
  unfold handleSensor
  split
  · rfl
  · split
    · unfold takeSample
      dsimp only
      split <;> simp [deliverSample]
    · split
      · unfold takeFault
        split <;> simp
      · rfl

theorem channelExpiry_waiting (x : Channel) (s : State) :
    (channelExpiry x s).ports.waiting = s.ports.waiting := by
  unfold channelExpiry
  split <;> simp

end Sys2Proof.Machine
end

section
/-! The COMMAND frame that waits at the arbiter (R144, R145, R150): it carries the last handed entries, all of
them PARK in SAFE. It is handed with them, rewritten together with them, begun or discarded. -/

set_option Elab.async false

namespace Sys2Proof.Machine

/-- R144, R145: what is known of the frame that waits. -/
structure WaitingFit (s : State) : Prop where
  carried : ∀ w ∈ s.ports.waiting, w.entries = s.cars.lastHanded
  parked : s.executor.opState = .safe → ∀ w ∈ s.ports.waiting,
    w.entries = Vector.replicate 12 .parked

/-- `t` has the waiting frame of `s` or none, the entries last handed and the operating state. -/
structure WaitingKept (s t : State) : Prop where
  waiting : t.ports.waiting = none ∨ t.ports.waiting = s.ports.waiting
  lastHanded : t.cars.lastHanded = s.cars.lastHanded
  opState : t.executor.opState = s.executor.opState

theorem WaitingKept.of_frame {fs : List Field} {s t : State} (k : SameBut fs s t)
    (hwaiting : t.ports.waiting = s.ports.waiting)
    (hf : Field.cars ∉ fs ∧ Field.executor ∉ fs := by decide) : WaitingKept s t where
  waiting := .inr hwaiting
  lastHanded := congrArg Cars.lastHanded (k .cars hf.1)
  opState := congrArg Executor.opState (k .executor hf.2)

/-- What changes only channel records of the cars. -/
theorem ChannelsOnly.waitingKept {s t : State} (k : ChannelsOnly s t) : WaitingKept s t where
  waiting := .inr (k.frame.waiting)
  lastHanded := k.lastHanded
  opState := congrArg Executor.opState (k.frame .executor (by decide))

theorem WaitingFit.of_none {s : State} (h : s.ports.waiting = none) : WaitingFit s := by
  constructor <;> simp [h]

section Fit

variable {s t : State}

theorem WaitingFit.keep (h : WaitingFit s) (k : WaitingKept s t) : WaitingFit t := by
  rcases k.waiting with hnone | hsame
  · exact .of_none hnone
  · constructor
    · rw [hsame, k.lastHanded]
      exact h.carried
    · rw [hsame, k.opState]
      exact h.parked

theorem WaitingFit.of_frame {fs : List Field} (h : WaitingFit s) (k : SameBut fs s t)
    (hf : (Field.cars ∉ fs ∧ Field.executor ∉ fs) ∧ Field.ports ∉ fs := by decide) : WaitingFit t :=
  h.keep (.of_frame k (k.waiting hf.2) hf.1)

theorem WaitingFit.setChannel (h : WaitingFit s) (c : Car) (x : CarChannel) :
    WaitingFit (setChannel c x s) := h.keep (setChannel_only c x s).waitingKept

theorem WaitingFit.offerReport (h : WaitingFit s) (r : Report) : WaitingFit (offerReport r s) :=
  h.keep (.of_frame (offerReport_frame r s) (offerReport_waiting r s))

/-- R145: a waiting frame and the last handed entries are rewritten together. -/
theorem WaitingFit.parkWaiting (h : WaitingFit s) (u : UnitId) : WaitingFit (parkWaiting u s) := by
  rcases parkWaiting_cases u s with ⟨-, e⟩ | ⟨w, hw, e⟩ <;> rw [e]
  · exact h
  · constructor
    · rintro _ ⟨rfl⟩
      exact congrArg (·.set u .parked) (h.carried w hw)
    · rintro hsafe _ ⟨rfl⟩
      change w.entries.set u .parked = _
      rw [h.parked hsafe w hw, Vector.set_replicate_self]

theorem WaitingFit.enterStill (h : WaitingFit s) (c : Car) (st : ChanState) :
    WaitingFit (enterStill c st s) := (h.setChannel c _).parkWaiting _

/-- R137, R145. -/
theorem WaitingFit.carChanged (h : WaitingFit s) (c : Car) (y : CarChannel) (cause : CarCause) :
    WaitingFit (s.carChanged c y cause) := by
  have hset := h.setChannel c y
  unfold State.carChanged
  dsimp only
  split
  · exact hset
  · refine WaitingFit.offerReport ?_ _
    split
    · rw [← parkWaiting_eq_sentPark]
      exact hset.parkWaiting _
    · exact hset

theorem WaitingFit.handleUnitStatus (h : WaitingFit s) (p : List Byte) :
    WaitingFit (handleUnitStatus p s) := by
  unfold Machine.handleUnitStatus
  split
  · exact h
  · split
    · refine forCars_keeps (p := WaitingFit) (fun c t ht => ?_) s h
      split
      · rw [takeStatus_eq]
        exact ht.carChanged _ _ _
      · exact ht
    · exact h

/-! ## The expiry of the command timer -/

theorem WaitingFit.ageAll (h : WaitingFit s) : WaitingFit (ageAll s) :=
  forCars_keeps (p := WaitingFit) (fun c t ht => ageTest_eq c t ▸ ht.carChanged _ _ _) _
    (forCars_keeps (p := WaitingFit) (fun c t ht => ageCar_eq c t ▸ ht.setChannel _ _) s h)

/-- R143 to R145: the frame handed carries the entries that become the last handed ones. -/
theorem handFrame_waitingFit (s : State) : WaitingFit (handFrame s) := by
  have hentries : (handFrame s).cars.lastHanded = tabulate (unitEntry s) := rfl
  obtain ⟨-, -, -, -, -, -, hwaiting⟩ := Ports.aftKick_other s.nodeAddress
    { s.ports with
      waiting := some { seq := s.ports.aftSeq, commandSeq := s.cars.commandSeq,
                        entries := tabulate (unitEntry s) }
      aftSeq := s.ports.aftSeq + 1 }
  rcases hwaiting with hnone | hwaits
  · exact .of_none hnone
  · have hw : (handFrame s).ports.waiting = some _ := hwaits
    constructor
    · rw [hw]
      rintro _ ⟨rfl⟩
      exact hentries.symm
    · intro hsafe
      have hs : s.executor.opState = .safe := hsafe
      rw [hw]
      rintro _ ⟨rfl⟩
      refine (vector_eq_tabulate fun u => ?_).symm
      rw [unitEntry_safe hs]
      simp

theorem WaitingFit.commandExpiry (h : WaitingFit s) : WaitingFit (commandExpiry s) := by
  cases hw : s.ports.waiting with
  | some w =>
    rw [commandExpiry_skips (by rw [hw]; rfl)]
    exact WaitingFit.ageAll ⟨h.carried, h.parked⟩
  | none =>
    have hhanded : WaitingFit (s.handed s.builtFrame) := handFrame_moved hw ▸ handFrame_waitingFit s.moved
    rw [commandExpiry_computes hw]
    exact (forCars_keeps (p := WaitingFit) (fun c t ht => ht.carChanged _ _ _) _ hhanded).ageAll

/-! ## Changes of the operating state -/

theorem parkForSafe_only (c : Car) (t : State) : ChannelsOnly t (parkForSafe c t) := by
  unfold parkForSafe
  dsimp only
  split <;> exact setChannel_only _ _ _

theorem activateCar_only (c : Car) (t : State) : ChannelsOnly t (activateCar c t) := by
  unfold activateCar
  dsimp only
  split
  · exact setChannel_only _ _ _
  · split
    · split <;> exact setChannel_only _ _ _
    · exact .refl _

/-- Outside SAFE a change of the operating state leaves the frame and its entries. -/
theorem WaitingFit.changes (h : WaitingFit s) {op : OpState} (hop : op ≠ .safe) {f : Car → State → State}
    (hf : ∀ c u, ChannelsOnly u (f c u)) : WaitingFit (forCars f (setOpState op s)) := by
  have hset : WaitingFit (setOpState op s) := ⟨h.carried, fun hsafe => absurd hsafe hop⟩
  exact hset.keep (forCars_only hf _).waitingKept

/-- R150: every entry of a waiting frame becomes PARK. -/
theorem changeToSafe_waitingFit (s : State) : WaitingFit (changeToSafe s) := by
  unfold changeToSafe
  generalize forCars parkForSafe (setOpState .safe s) = u
  unfold parkAllWaiting
  split
  · rename_i hnone
    exact .of_none hnone
  · constructor
    · rintro _ ⟨rfl⟩
      rfl
    · rintro - _ ⟨rfl⟩
      rfl

theorem WaitingFit.setTarget (h : WaitingFit s) (target : OpState) : WaitingFit (setTarget target s).2 := by
  have hchanged : ∀ before {u : State}, WaitingFit u → WaitingFit (changed before u).2 :=
    fun before u hu => hu.offerReport _
  have hactive : WaitingFit (changeToActive s) := h.changes (by decide) activateCar_only
  have hstandby : WaitingFit (changeToStandby s) := 
    h.changes (f := standbyCar) (by decide) fun c u => setChannel_only c _ u
  unfold Machine.setTarget
  split
  case h_1 => exact h
  case h_2 => exact h
  case h_3 => exact h
  case h_4 => exact hchanged _ (changeToSafe_waitingFit s)
  case h_5 => exact hchanged _ (changeToSafe_waitingFit s)
  case h_6 => exact hchanged _ hactive
  case h_7 => exact hchanged _ hstandby
  case h_8 =>
    split
    · exact h.offerReport _
    · exact hchanged _ ⟨h.carried, nofun⟩
  case h_9 =>
    split
    · exact h.offerReport _
    · exact hchanged _ hactive

theorem WaitingFit.actSetState (h : WaitingFit s) (p : List Byte) : WaitingFit (actSetState p s).2 := by
  unfold Machine.actSetState
  split
  · exact h
  · exact h.setTarget _

/-- R16, R158: a warm restart has discarded the frame. -/
theorem restartBlocks_waiting (s : State) : (restartBlocks s).ports.waiting = s.ports.waiting := by
  obtain ⟨own, u, hframe, hblocks⟩ := restartBlocks_eq s
  rw [hblocks]
  exact (lineClear_waiting own u).trans hframe.waiting

theorem restartQueues_waiting (r : Request) (s : State) : (restartQueues r s).ports.waiting = none := by
  obtain ⟨-, -, -, -, hwaiting, -⟩ := Ports.foreKick_other
    { s.ports with reservation := false, aftQueue := [], waiting := none,
                   foreQueue := [replyFrame r (.bare .ok) s] }
  exact hwaiting

/-! ## Requests -/

theorem WaitingFit.enableCar (h : WaitingFit s) (c : Car) : WaitingFit (enableCar c s) := by
  have hset := (h.enterStill c .parked).setChannel c { (Machine.enterStill c .parked s).channel c with
    lastState := none, lastActual := none, lastEcho := none, age := 0, run := 0 }
  exact hset.of_frame (setRegime_frame c .reset _)

theorem WaitingFit.disableCar (h : WaitingFit s) (c : Car) : WaitingFit (disableCar c s) := by
  have hstill := h.enterStill c .off
  unfold Machine.disableCar
  generalize Machine.enterStill c .off s = u at hstill ⊢
  exact hstill.keep (.of_frame (markerDisable_frame c u) (markerDisable_waiting c u))

theorem WaitingFit.applyCarProfile (h : WaitingFit s) (c : Car) (x : CarProfile) :
    WaitingFit (applyCarProfile c x s) := by
  have hwritten : WaitingFit (writeCarProfile c x s) := h.of_frame (writeCarProfile_frame c x s)
  unfold Machine.applyCarProfile
  dsimp only
  split
  · split
    · exact hwritten.enableCar c
    · exact hwritten
  · split
    · exact hwritten
    · exact hwritten.disableCar c

theorem WaitingFit.actSetCarProfile (h : WaitingFit s) (p : List Byte) :
    WaitingFit (actSetCarProfile p s).2 := by
  rcases actSetCarProfile_cases p s with e | ⟨c, x, -, e⟩ <;> rw [e]
  · exact h
  · exact h.applyCarProfile c x

/-- R142: the status of a unit that a position loses. -/
def State.forgot (m : Vector UnitId 12) (s : State) : State :=
  forCars (fun c t => if m[c] = s.unitOf c then t else forgetStatus c t) s

theorem forgot_only (m : Vector UnitId 12) (s : State) : ChannelsOnly s (s.forgot m) :=
  forCars_only (fun c t => by
    split
    · exact .refl t
    · exact setChannel_only c _ t) s

theorem writeOrder_eq (m : Vector UnitId 12) (s : State) :
    writeOrder m s = (s.forgot m).setCars { (s.forgot m).cars with order := m } := rfl

theorem writeOrder_kept (m : Vector UnitId 12) (s : State) : WaitingKept s (writeOrder m s) := by
  obtain ⟨hwaiting, hentries, hop⟩ := (forgot_only m s).waitingKept
  exact ⟨hwaiting, hentries, hop⟩

theorem WaitingFit.actSetCarOrder (h : WaitingFit s) (p : List Byte) :
    WaitingFit (actSetCarOrder p s).2 := by
  unfold Machine.actSetCarOrder
  split
  · exact h
  · split
    · exact h
    · split
      · exact h
      · exact h.keep (writeOrder_kept _ s)

theorem WaitingFit.actClearCar (h : WaitingFit s) (p : List Byte) : WaitingFit (actClearCar p s).2 := by
  unfold Machine.actClearCar
  split
  · exact h
  · split
    · exact h
    · split
      · exact h
      · exact (h.enterStill _ _).setChannel _ _

theorem release_waiting (serial : Nat) (replacement : Option RegimeEntry) (s : State) :
    (release serial replacement s).2.ports.waiting = s.ports.waiting := by
  unfold release
  split
  · split
    · simp [releaseHold]
    · split <;> rfl
  · split <;> rfl

theorem actAttentionRelease_waiting (p : List Byte) (s : State) :
    (actAttentionRelease p s).2.ports.waiting = s.ports.waiting := by
  unfold actAttentionRelease
  split
  · rfl
  · exact release_waiting _ _ s
  · split
    · rfl
    · exact release_waiting _ _ s

theorem actSetLineProfile_waiting (p : List Byte) (s : State) :
    (actSetLineProfile p s).2.ports.waiting = s.ports.waiting := by
  unfold actSetLineProfile
  split
  · rfl
  · split
    · rfl
    · unfold writeProfile
      split <;> simp

theorem actCaptureStart_waiting (p : List Byte) (s : State) :
    (actCaptureStart p s).2.ports.waiting = s.ports.waiting := by
  unfold actCaptureStart
  dsimp only
  split
  · rfl
  · split
    · rfl
    · split
      · rfl
      · split
        · simp [captureStarted, beginRelative]
        · split
          · rfl
          · simp [captureStarted]

theorem actCaptureRead_waiting (p : List Byte) (s : State) :
    (actCaptureRead p s).2.ports.waiting = s.ports.waiting := by
  unfold actCaptureRead
  split
  · rfl
  · rfl
  · rfl
  · split
    · exact overtakingTest_waiting s
    · rfl

theorem WaitingFit.act {name : RequestName} {act : List Byte → State → Reply × State}
    (hact : name.act = some act) (p : List Byte) (h : WaitingFit s) : WaitingFit (act p s).2 := by
  have hframe := act_frame hact p s
  cases name <;> cases hact
  case setState => exact h.actSetState p
  case setCarProfile => exact h.actSetCarProfile p
  case setCarOrder => exact h.actSetCarOrder p
  case clearCar => exact h.actClearCar p
  case setLineProfile => exact h.keep (.of_frame hframe (actSetLineProfile_waiting p s))
  case attentionRelease => exact h.keep (.of_frame hframe (actAttentionRelease_waiting p s))
  case captureStart => exact h.keep (.of_frame hframe (actCaptureStart_waiting p s))
  case captureRead => exact h.keep (.of_frame hframe (actCaptureRead_waiting p s))
  all_goals exact h.of_frame hframe (by decide)

/-! ## Frames carried and delivered -/

theorem WaitingFit.deliver (h : WaitingFit s) (role : Role) (p : List Byte) :
    WaitingFit (deliver role p s) := by
  cases role with
  | sensorP => exact h.keep (.of_frame (handleSensor_frame .p p s) (handleSensor_waiting .p p s))
  | sensorQ => exact h.keep (.of_frame (handleSensor_frame .q p s) (handleSensor_waiting .q p s))
  | odometry => exact h.keep (.of_frame (handleOdometry_frame p s) (handleOdometry_waiting p s))
  | markerReader => exact h.keep (.of_frame (handleMarker_frame p s) (handleMarker_waiting p s))
  | unitStatus => exact h.handleUnitStatus p
  | manager => exact h

/-- R11: a waiting frame begins at a free aft transmitter, or goes on waiting. -/
theorem WaitingFit.forward (h : WaitingFit s) (port : Port) (f : Frame) :
    WaitingFit (forward port f s) := by
  have hcars : (Machine.forward port f s).cars = s.cars := forward_frame port f s .cars (by decide)
  have hexecutor : (Machine.forward port f s).executor = s.executor :=
    forward_frame port f s .executor (by decide)
  refine h.keep ⟨?_, congrArg Cars.lastHanded hcars, congrArg Executor.opState hexecutor⟩
  cases port with
  | fore =>
    obtain ⟨-, -, -, -, -, -, hwaiting⟩ := Ports.aftAdmit_other s.nodeAddress s.ports f
    change (offerAft f s).ports.waiting = none ∨ (offerAft f s).ports.waiting = s.ports.waiting
    unfold offerAft
    split
    · exact hwaiting
    · exact .inr rfl
  | aft =>
    obtain ⟨-, -, -, -, hwaiting, -⟩ := Ports.foreAdmit_other s.ports f
    change (offerFore f s).ports.waiting = none ∨ (offerFore f s).ports.waiting = s.ports.waiting
    unfold offerFore
    split
    · exact .inr hwaiting
    · exact .inr rfl

/-- R7: the frame delivered and its copy forwarded, in either order. -/
theorem WaitingFit.handOver (h : WaitingFit s) (e : IntakeEntry) (port : Port) (f : Frame) :
    WaitingFit (handOver e port f s) := by
  have hbook : ∀ x, WaitingFit (s.setBook x) := fun x => h.of_frame (setBook_frame s x)
  unfold Machine.handOver
  dsimp only
  split
  · split
    · exact (h.deliver _ _).forward _ _
    · split
      · exact ((hbook _).forward _ _).deliver _ _
      · exact ((hbook _).deliver _ _).forward _ _
  · exact h.deliver _ _

theorem WaitingFit.receiveRun (h : WaitingFit s) (port : Port) (run : List Byte) :
    WaitingFit (receiveRun port run s) := by
  unfold Machine.receiveRun
  split
  · cases port <;> exact h.of_frame (setCounters_frame _ _)
  · unfold intakeFrame
    split
    · split
      · have k := acceptRequest_traffic ‹Frame› s
        have hports := (acceptRequest_frame ‹Frame› s).waiting
        exact h.keep ⟨.inr hports, congrArg Cars.lastHanded (k.frame .cars (by decide)), k.opState⟩
      · exact h.forward _ _
    · split
      · exact h.forward _ _
      · split
        · unfold matchedFrame
          split
          · exact h
          · exact (h.of_frame (acceptSeq_frame _ _ _ s)).handOver _ _ _
        · exact h.forward _ _

/-! ## The step -/

theorem WaitingFit.aftEnd (h : WaitingFit s) : WaitingFit (aftEnd s) := by
  unfold Machine.aftEnd
  split
  · exact h
  · obtain ⟨-, -, -, -, -, -, hwaiting⟩ :=
      Ports.aftKick_other s.nodeAddress { s.ports with aftTx := none }
    exact h.keep ⟨hwaiting, rfl, rfl⟩

theorem WaitingFit.foreEnd (h : WaitingFit s) : WaitingFit (foreEnd s) := by
  unfold Machine.foreEnd
  split
  · exact h
  · obtain ⟨-, -, -, -, hwaiting, -⟩ := Ports.foreKick_other { s.ports with foreTx := none }
    exact h.keep ⟨.inr hwaiting, rfl, rfl⟩

theorem WaitingFit.taken (h : WaitingFit s) (rest : List Request) : WaitingFit (s.taken rest) :=
  h.keep ⟨.inr rfl, rfl, rfl⟩

theorem WaitingFit.placeReply (h : WaitingFit s) (r : Request) (a : Reply) :
    WaitingFit (placeReply r a s) := by
  obtain ⟨-, -, -, -, hwaiting, -⟩ :=
    Ports.foreAdmit_other { s.ports with reservation := false } (replyFrame r a s)
  exact h.keep ⟨.inr hwaiting, rfl, rfl⟩

theorem WaitingFit.event {c : Instr} {f : State → State} (hf : eventOf c = some f)
    (h : WaitingFit s) : WaitingFit (f s) := by
  cases c <;> cases hf
  case coldResetAssert => exact h.keep ⟨.inr rfl, rfl, rfl⟩
  case coldResetRelease straps => exact .of_none rfl
  case portFrameReceived port run => exact unlessReset_keeps (h.receiveRun port run) h
  case aftTransmitEnd => exact unlessReset_keeps h.aftEnd h
  case foreTransmitEnd => exact unlessReset_keeps h.foreEnd h
  case odometryTimeout =>
    exact unlessReset_keeps (h.keep (.of_frame (odometryExpiry_frame s) (odometryExpiry_waiting s))) h
  case channelTimeout x =>
    exact unlessReset_keeps (h.keep (.of_frame (channelExpiry_frame x s) (channelExpiry_waiting x s))) h
  case commandTimerExpiry => exact unlessReset_keeps h.commandExpiry h
  case attentionTimerExpiry =>
    exact unlessReset_keeps (h.keep (.of_frame (attentionExpiry_frame s) (attentionExpiry_waiting s))) h
  case unknownRequest =>
    exact serveUnknown_keeps h (fun _ rest _ => h.taken rest) fun r a _ hu => hu.placeReply r a

/-- R158: Warm Restart restarts the blocks of a part at whose arbiter no frame waits. -/
theorem WaitingFit.serveWarmRestart (h : WaitingFit s) : WaitingFit (serveWarmRestart s) := by
  unfold Machine.serveWarmRestart
  split
  · exact h
  · rename_i r t ht
    obtain ⟨rest, -, -, rfl⟩ := takeRequest_some ht
    have htaken := h.taken rest
    split
    · exact htaken.placeReply _ _
    · split
      · exact htaken.placeReply _ _
      · exact .of_none ((restartBlocks_waiting _).trans (restartQueues_waiting _ _))

theorem WaitingFit.served (h : WaitingFit s) (name : RequestName) : WaitingFit (name.served s) := by
  unfold RequestName.served
  split
  · rename_i act hact
    exact serve_keeps (Q := WaitingFit) h (fun _ rest _ => h.taken rest)
      (fun r a _ hu => hu.placeReply r a) fun p _ hu => hu.act hact p
  · exact h.serveWarmRestart

theorem WaitingFit.step (h : WaitingFit s) (hstep : step s = .next t) : WaitingFit t :=
  step_keeps (fun _ _ hs => hs.keep ⟨.inr rfl, rfl, rfl⟩) (fun _ _ _ hf hs => hs.event hf)
    (fun name _ hs => hs.served name) hstep h

end Fit

end Sys2Proof.Machine
end

section
/-! The units and the cars on them (R141, R144, R145): outside SAFE the enabled cars have units of their own,
and a car that is not at rest stands at the angle that its unit was last handed. A car leaves its angle when
it comes to rest, its unit is then sent PARK, and no other car that moves has that unit. -/

set_option Elab.async false

namespace Sys2Proof.Machine

/-! ## Entries and units -/

/-- R144: a PARK entry has angle 0, and no entry an angle beyond 1000 cdeg. -/
structure CmdEntry.Fit (e : CmdEntry) : Prop where
  park : e.mode = .park → e.angle = 0
  small : e.angle.natAbs ≤ 1000

theorem parked_fit : CmdEntry.parked.Fit := ⟨fun _ => rfl, Nat.zero_le _⟩

/-- R141: outside SAFE no two enabled cars share a unit. -/
def UnitsApart (s : State) : Prop :=
  s.executor.opState ≠ .safe → ∀ c d : Car, s.enabled c = true → s.enabled d = true →
    s.unitOf c = s.unitOf d → c = d

/-- R141, R144, R145: the units, the entries they were last handed, and the cars that move by them. -/
structure UnitsFit (s : State) : Prop where
  apart : UnitsApart s
  entries : ∀ u : UnitId, s.cars.lastHanded[u].Fit
  stands : ∀ c : Car, (s.channel c).state.moving = true →
    s.cars.lastHanded[s.unitOf c].lastAngle = (s.channel c).thetaPrev

theorem handedSound_iff (s : State) : HandedSound s ↔ UnitsFit s ∧ WaitingFit s := by
  constructor
  · rintro ⟨hapart, hcarried, hparked, hpark, hsmall, hstands⟩
    exact ⟨⟨hapart, fun u => ⟨hpark u, hsmall u⟩, hstands⟩,
      ⟨hcarried, fun hsafe w hw => hparked w hw hsafe⟩⟩
  · rintro ⟨⟨hapart, hentries, hstands⟩, ⟨hcarried, hparked⟩⟩
    exact ⟨hapart, hcarried, fun w hw hsafe => hparked hsafe w hw, fun u => (hentries u).park,
      fun u => (hentries u).small, hstands⟩

section Fit

variable {s t : State} {c : Car}

theorem UnitsApart.of_duty (h : UnitsApart s) (hduty : SameDuty s t)
    (horder : t.cars.order = s.cars.order) : UnitsApart t := by
  unfold UnitsApart at h ⊢
  simp only [State.enabled, State.carProfile, State.unitOf, hduty.opState, hduty.profiles, horder] at h ⊢
  exact h

/-- What leaves the cars, the profiles and the operating state. -/
theorem UnitsFit.of_duty (h : UnitsFit s) (hduty : SameDuty s t) (hcars : t.cars = s.cars) :
    UnitsFit t where
  apart := h.apart.of_duty hduty (by rw [hcars])
  entries := by rw [hcars]; exact h.entries
  stands := by
    simp only [State.channel, State.unitOf, hcars]
    exact h.stands

theorem UnitsFit.of_frame {fs : List Field} (h : UnitsFit s) (k : SameBut fs s t)
    (hf : (Field.executor ∉ fs ∧ Field.demand ∉ fs) ∧ Field.cars ∉ fs := by decide) : UnitsFit t :=
  h.of_duty (.of_frame k hf.1) (k .cars hf.2)

theorem UnitsFit.of_profiles {fs : List Field} (h : UnitsFit s) (k : SameBut fs s t)
    (hp : SameProfiles s t) (hf : Field.executor ∉ fs ∧ Field.cars ∉ fs := by decide) : UnitsFit t :=
  h.of_duty ⟨congrArg Executor.opState (k .executor hf.1), hp.2⟩ (k .cars hf.2)

theorem UnitsFit.of_traffic (h : UnitsFit s) (k : Traffic s t) : UnitsFit t :=
  h.of_duty ⟨k.opState, congrArg Demand.profiles (k.frame .demand (by decide))⟩
    (k.frame .cars (by decide))

/-- In SAFE no car moves, and units may be shared. -/
theorem UnitsFit.of_safe (hcars : CarsFit s) (hsafe : s.executor.opState = .safe)
    (hentries : ∀ u : UnitId, s.cars.lastHanded[u].Fit) : UnitsFit s where
  apart := fun hop => absurd hsafe hop
  entries := hentries
  stands := fun c hmoving => by simp [(hcars c).safe hsafe] at hmoving

/-! ## Changes of a record -/

theorem UnitsFit.setChannel {x : CarChannel} (h : UnitsFit s)
    (hx : x.state.moving = true → s.cars.lastHanded[s.unitOf c].lastAngle = x.thetaPrev) :
    UnitsFit (Machine.setChannel c x s) where
  apart := h.apart.of_duty (.of_frame (setChannel_frame c x s)) rfl
  entries := h.entries
  stands := fun d => by
    by_cases hd : d = c
    · subst hd
      rw [setChannel_same]
      exact hx
    · rw [setChannel_other x s hd]
      exact h.stands d

/-- A car that is at rest plays no part. -/
theorem UnitsFit.setStill {x : CarChannel} (h : UnitsFit s) (hx : x.state.moving = false) :
    UnitsFit (Machine.setChannel c x s) := h.setChannel fun hmoving => by simp [hx] at hmoving

/-- No other car that moves has the unit of a car. -/
def Unshared (s : State) (c : Car) : Prop :=
  ∀ d, d ≠ c → (s.channel d).state.moving = true → s.unitOf d ≠ s.unitOf c

/-- R141: the unit of an enabled car is unshared. -/
theorem UnitsFit.unshared (h : UnitsFit s) (hcars : CarsFit s) (hon : s.enabled c = true) :
    Unshared s c := fun d hd hmoving hunit =>
  hd (h.apart ((hcars d).not_safe hmoving) d c
    ((hcars d).enabled (ChanState.moving_ne hmoving).1) hon hunit)

theorem UnitsFit.parkWaiting {u : UnitId} (h : UnitsFit s)
    (hu : ∀ d, (s.channel d).state.moving = true → s.unitOf d ≠ u) : UnitsFit (parkWaiting u s) := by
  rcases parkWaiting_cases u s with ⟨-, e⟩ | ⟨w, -, e⟩ <;> rw [e]
  · exact h
  · refine ⟨h.apart.of_duty ⟨rfl, rfl⟩ rfl, fun v => ?_, fun d hmoving => ?_⟩
    · by_cases hv : v = u
      · subst hv
        exact (vector_set_same s.cars.lastHanded v .parked).symm ▸ parked_fit
      · exact (vector_set_other s.cars.lastHanded .parked hv).symm ▸ h.entries v
    · exact (congrArg CmdEntry.lastAngle
        (vector_set_other s.cars.lastHanded .parked (hu d hmoving))).trans (h.stands d hmoving)

/-- R115, R145: a car comes to rest. -/
theorem UnitsFit.enterStill {st : ChanState} (h : UnitsFit s) (hst : st.moving = false)
    (hc : Unshared s c) : UnitsFit (enterStill c st s) := by
  have hset := h.setStill (c := c) (x := { s.channel c with
    state := st, thetaPrev := 0, parkHeld := false,
    run := if st = .failed then 0 else (s.channel c).run }) hst
  refine hset.parkWaiting fun d hmoving => ?_
  by_cases hd : d = c
  · subst hd
    rw [setChannel_same] at hmoving
    simp [hst] at hmoving
  · rw [setChannel_other _ _ hd] at hmoving
    exact hc d hd hmoving

/-- R137, R145: an enabled car takes a record that is at rest, or stands where its unit does. -/
theorem UnitsFit.carChanged {y : CarChannel} (h : UnitsFit s) (hcars : CarsFit s)
    (hon : s.enabled c = true) (cause : CarCause)
    (hy : y.state.moving = true → s.cars.lastHanded[s.unitOf c].lastAngle = y.thetaPrev) :
    UnitsFit (s.carChanged c y cause) := by
  have hset := h.setChannel (c := c) hy
  unfold State.carChanged
  dsimp only
  split
  · exact hset
  · refine UnitsFit.of_frame ?_ (offerReport_frame _ _)
    split
    · rename_i hstill
      rw [← parkWaiting_eq_sentPark]
      refine hset.parkWaiting fun d hmoving => ?_
      by_cases hd : d = c
      · subst hd
        have hown : ((Machine.setChannel d y s).channel d).state.moving = true := hmoving
        rw [setChannel_same] at hown
        rcases hstill with e | e | e <;> simp [e, ChanState.moving] at hown
      · have hother : ((Machine.setChannel c y s).channel d).state.moving = true := hmoving
        rw [setChannel_other _ _ hd] at hother
        exact h.unshared hcars hon d hd hother
    · exact hset

/-- A record that moves only as the one before it moved, at the same angle. -/
def CarChannel.Follows (x y : CarChannel) : Prop :=
  y.state.moving = true → x.state.moving = true ∧ y.thetaPrev = x.thetaPrev

theorem CarChannel.Follows.refl (x : CarChannel) : x.Follows x := fun h => ⟨h, rfl⟩

theorem CarChannel.Follows.of_still {x y : CarChannel} (h : y.state.moving = false) : x.Follows y :=
  fun hmoving => by simp [h] at hmoving

theorem CarChannel.Follows.trans {x y z : CarChannel} (h : x.Follows y) (k : y.Follows z) :
    x.Follows z := fun hmoving => by
  obtain ⟨hy, hangle⟩ := k hmoving
  obtain ⟨hx, hangle'⟩ := h hy
  exact ⟨hx, hangle.trans hangle'⟩

/-- A car whose record follows the one before it goes on standing where its unit does. -/
theorem UnitsFit.follows {y : CarChannel} (h : UnitsFit s) (hy : (s.channel c).Follows y)
    (hmoving : y.state.moving = true) :
    s.cars.lastHanded[s.unitOf c].lastAngle = y.thetaPrev := by
  obtain ⟨hbefore, hangle⟩ := hy hmoving
  rw [hangle]
  exact h.stands c hbefore

/-! ## Unit status and ages -/

theorem CarChannel.acted_follows (op : OpState) (u : UnitState) (x : CarChannel) :
    x.Follows (x.acted op u) := by
  cases u with
  | ready =>
    unfold CarChannel.acted
    dsimp only
    split
    · rename_i hhold
      cases op with
      | active => exact fun _ => ⟨by rw [hhold]; rfl, rfl⟩
      | standby => exact fun _ => ⟨by rw [hhold]; rfl, rfl⟩
      | safe => exact .refl x
    · exact .refl x
  | busy =>
    unfold CarChannel.acted
    dsimp only
    split
    · rename_i htilting
      exact fun _ => ⟨by rcases htilting with e | e <;> rw [e] <;> rfl, rfl⟩
    · exact .refl x
  | fault =>
    unfold CarChannel.acted
    dsimp only
    split
    · exact .refl x
    · exact .of_still rfl

theorem answeredStatus_follows (s : State) (c : Car) (u : UnitState) (actual : Int) (echo : Word16) :
    (s.channel c).Follows (s.answeredStatus c u actual echo) := by
  have htracked : (s.channel c).Follows
      (((s.channel c).heard u actual echo).tracked s.profile.trackingLimit actual) := by
    unfold CarChannel.tracked
    split <;> exact .refl _
  unfold State.answeredStatus
  dsimp only
  split
  · exact .of_still rfl
  · exact htracked.trans (CarChannel.acted_follows _ _ _)

theorem UnitsFit.handleUnitStatus (h : UnitsFit s) (hcars : CarsFit s) (p : List Byte) :
    UnitsFit (handleUnitStatus p s) := by
  unfold Machine.handleUnitStatus
  split
  · exact h
  · split
    · refine (forCars_keeps (p := fun t => CarsFit t ∧ UnitsFit t) (fun c t ht => ?_) s ⟨hcars, h⟩).2
      obtain ⟨htcars, ht⟩ := ht
      split
      · rename_i htakes
        simp only [Bool.and_eq_true] at htakes
        refine ⟨htcars.takeStatus _ _ _, ?_⟩
        rw [takeStatus_eq]
        exact ht.carChanged htcars htakes.1 _ (ht.follows (answeredStatus_follows _ _ _ _ _))
      · exact ⟨htcars, ht⟩
    · exact h

theorem CarChannel.timed_follows (l : LineProfile) (x : CarChannel) : x.Follows (x.timed l) := by
  unfold CarChannel.timed
  split
  · rename_i htilting
    split
    · exact .of_still rfl
    · exact fun _ => ⟨by rcases htilting.1 with e | e <;> rw [e] <;> rfl, rfl⟩
  · split
    · exact .of_still rfl
    · exact .refl x

/-- R135: only a car that is not OFF, and so enabled, changes by its age. -/
theorem UnitsFit.ageTest (h : UnitsFit s) (hcars : CarsFit s) (c : Car) : UnitsFit (ageTest c s) := by
  by_cases hoff : (s.channel c).state = .off
  · have hsame : (s.channel c).timed s.profile = s.channel c := by simp [CarChannel.timed, hoff]
    rw [ageTest_eq, hsame, carChanged_self]
    exact h
  · rw [ageTest_eq]
    exact h.carChanged hcars ((hcars c).enabled hoff) _ (h.follows (CarChannel.timed_follows _ _))

theorem UnitsFit.ageAll (h : UnitsFit s) (hcars : CarsFit s) : UnitsFit (ageAll s) := by
  have hage : ∀ (c : Car) {t : State}, UnitsFit t → UnitsFit (ageCar c t) := fun c t ht => by
    have hsame : (t.channel c).Follows (t.channel c).older := .refl _
    rw [ageCar_eq]
    exact ht.setChannel (ht.follows hsame)
  have haged := forCars_keeps (p := fun t => CarsFit t ∧ UnitsFit t)
    (fun c t ht => ⟨ht.1.ageCar, hage c ht.2⟩) s ⟨hcars, h⟩
  exact (forCars_keeps (p := fun t => CarsFit t ∧ UnitsFit t)
    (fun c t ht => ⟨ht.1.ageTest, ht.2.ageTest ht.1 c⟩) _ haged).2

/-! ## The COMMAND frame -/

theorem CarProfile.full_small {x : CarProfile} {len : Nat} (h : x.inRange len = true) :
    x.fullLimit ≤ 1000 := by
  simp only [CarProfile.inRange, Bool.and_eq_true, decide_eq_true_eq] at h
  omega

theorem channelEntry_fit {x : CarChannel} (h : x.thetaPrev.natAbs ≤ 1000) : (channelEntry x).Fit := by
  unfold channelEntry
  split
  case h_1 | h_2 | h_3 => exact ⟨nofun, h⟩
  all_goals exact parked_fit

theorem unitEntry_fit (hcars : CarsFit s) (hp : ProfilesSound s) (u : UnitId) : (unitEntry s u).Fit := by
  unfold unitEntry
  split
  · exact parked_fit
  · split
    · rename_i c _
      exact channelEntry_fit ((hcars c).limit.trans (CarProfile.full_small (hp.2 c)))
    · exact parked_fit

/-- R144: the entry of a car that moves has its angle. -/
theorem channelEntry_lastAngle {x : CarChannel} (h : x.state.moving = true) :
    (channelEntry x).lastAngle = x.thetaPrev := by
  obtain ⟨st, _⟩ := x
  cases st
  case following | centring | hold => rfl
  all_goals cases h

/-- R144, R145: after a frame has been handed each car that moves stands at its own entry. -/
theorem handFrame_unitsFit (hapart : UnitsApart s) (hcars : CarsFit s) (hp : ProfilesSound s) :
    UnitsFit (handFrame s) where
  apart := hapart.of_duty (.of_frame (handFrame_frame s)) rfl
  entries := fun u => by
    have hentry : (handFrame s).cars.lastHanded[u] = unitEntry s u := tabulate_get _ u
    rw [hentry]
    exact unitEntry_fit hcars hp u
  stands := fun c hmoving => by
    have hstate : (s.channel c).state.moving = true := hmoving
    have hop := (hcars c).not_safe hstate
    have hon : s.enabled c = true := (hcars c).enabled (ChanState.moving_ne hstate).1
    have hentry : (handFrame s).cars.lastHanded[s.unitOf c] = channelEntry (s.channel c) := by
      refine (tabulate_get (unitEntry s) (s.unitOf c)).trans ?_
      rw [unitEntry_position hop, positionOf_lowest hon fun d hd hunit => (hapart hop d c hd hon hunit).ge]
    change (handFrame s).cars.lastHanded[s.unitOf c].lastAngle = (s.channel c).thetaPrev
    rw [hentry, channelEntry_lastAngle hstate]

/-- R145: a held car starts from the angle 0 of its unit's PARK entry. -/
theorem UnitsFit.parkSent (h : UnitsFit s) (c : Car) : UnitsFit (parkSent c s) := by
  unfold Machine.parkSent
  dsimp only
  split
  · rename_i hsent
    obtain ⟨-, -, -, -, hpark⟩ := hsent
    refine (h.setChannel fun _ => ?_).of_frame (carReport_frame _ _ _ _)
    exact if_pos hpark
  · exact h

theorem UnitsFit.commandExpiry (h : UnitsFit s) (hcars : CarsFit s) (hp : ProfilesSound s) :
    UnitsFit (commandExpiry s) := by
  have hrestarted : UnitsFit (restartTimer s) := h.of_duty ⟨rfl, rfl⟩ rfl
  have htimer : CarsFit (restartTimer s) := hcars.of_channels ⟨rfl, rfl⟩ fun _ => rfl
  unfold Machine.commandExpiry
  dsimp only
  split
  · exact (hrestarted.of_frame (setCounters_frame _ _)).ageAll (htimer.of_frame (setCounters_frame _ _))
  · obtain ⟨hprofiles, hcomputed⟩ := forCars_keeps (p := fun t => ProfilesSound t ∧ CarsFit t)
      (fun c t ht => ⟨(computeCar_profiles c t).sound ht.1, ht.2.computeCar ht.1⟩) (restartTimer s)
      ⟨hp, htimer⟩
    have hapart : UnitsApart (forCars computeCar (restartTimer s)) := by
      rw [forCars_computeCar]
      intro hop c d
      rw [moved_executor] at hop
      simp only [moved_enabled, moved_unitOf]
      exact h.apart hop c d
    rw [computePeriod]
    generalize forCars computeCar (restartTimer s) = u at hprofiles hcomputed hapart ⊢
    refine UnitsFit.ageAll ?_ hcomputed.buildCommand
    exact forCars_keeps (p := UnitsFit) (fun c t ht => ht.parkSent c) _
      (handFrame_unitsFit hapart hcomputed hprofiles)

end Fit

end Sys2Proof.Machine
end

section
/-! The units after requests (R138 to R142, R147 to R154), and with the waiting frame after every step: SAFE is
left with a unit for every enabled car, and outside SAFE no request gives two enabled cars one unit. -/

set_option Elab.async false

namespace Sys2Proof.Machine

/-! ## Leaving SAFE -/

theorem mem_enabledCars {s : State} {c : Car} : c ∈ s.enabledCars ↔ s.enabled c = true := by
  simp [State.enabledCars, mem_allCars c]

/-- R151 item 2: a check that passes finds no two enabled cars on one unit. -/
theorem leaveCheck_apart {s : State} (h : leaveCheck s = none) {c d : Car} (hc : s.enabled c = true)
    (hd : s.enabled d = true) (hunit : s.unitOf c = s.unitOf d) : c = d := by
  have hunits : checkUnits s = none := by
    unfold leaveCheck at h
    simp only [Option.or_eq_none_iff] at h
    obtain ⟨-, hunits, -⟩ := h
    exact hunits
  have hnone : ∀ x y : Car, s.enabled x = true → s.enabled y = true → s.unitOf y = s.unitOf x →
      ¬y < x := by
    intro x y hx hy hxy hlt
    have hfind := List.find?_eq_none.1 (Option.map_eq_none_iff.1 hunits) x (mem_enabledCars.2 hx)
    exact hfind (List.any_eq_true.2 ⟨y, mem_enabledCars.2 hy, by simp [hlt, hxy]⟩)
  exact le_antisymm (not_lt.1 (hnone c d hc hd hunit.symm)) (not_lt.1 (hnone d c hd hc hunit))

section Fit

variable {s t : State}

/-! ## Changes of the operating state -/

theorem UnitsFit.setOpState (h : UnitsFit s) {op : OpState}
    (hapart : UnitsApart (setOpState op s)) : UnitsFit (setOpState op s) :=
  ⟨hapart, h.entries, h.stands⟩

/-- R153: a CENTRING car goes on at its angle, and a PARKED car starts from the angle 0 of its unit's PARK
entry or is held. -/
theorem UnitsFit.activateCar (h : UnitsFit s) (c : Car) : UnitsFit (activateCar c s) := by
  unfold Machine.activateCar
  dsimp only
  split
  · rename_i hcentring
    exact h.setChannel fun _ => h.stands c (by rw [hcentring]; rfl)
  · split
    · rename_i hparked
      split
      · rename_i hpark
        exact h.setChannel fun _ => if_pos hpark
      · exact h.setStill (by rw [hparked]; rfl)
    · exact h

/-- R154: a FOLLOWING car goes on at its angle. -/
theorem UnitsFit.standbyCar (h : UnitsFit s) (c : Car) : UnitsFit (standbyCar c s) := by
  refine h.setChannel fun hmoving => h.stands c ?_
  by_cases hfollowing : (s.channel c).state = .following
  · rw [hfollowing]
    rfl
  · rwa [if_neg hfollowing] at hmoving

theorem UnitsFit.changeToActive (h : UnitsFit s) (hapart : UnitsApart (Machine.setOpState .active s)) :
    UnitsFit (changeToActive s) :=
  forCars_keeps (p := UnitsFit) (fun c _ ht => ht.activateCar c) _ (h.setOpState hapart)

theorem UnitsFit.changeToStandby (h : UnitsFit s) (hapart : UnitsApart (Machine.setOpState .standby s)) :
    UnitsFit (changeToStandby s) :=
  forCars_keeps (p := UnitsFit) (fun c _ ht => ht.standbyCar c) _ (h.setOpState hapart)

theorem changeToSafe_opState (s : State) : (changeToSafe s).executor.opState = .safe := by
  have hparked : (forCars parkForSafe (setOpState .safe s)).executor = (setOpState .safe s).executor :=
    forCars_frame parkForSafe_frame _ .executor (by decide)
  unfold changeToSafe
  generalize forCars parkForSafe (setOpState .safe s) = v at hparked ⊢
  have hwaiting : (parkAllWaiting v).executor = v.executor := parkAllWaiting_frame v .executor (by decide)
  rw [hwaiting, hparked]
  rfl

/-- R150: every entry stays, or all become PARK. -/
theorem UnitsFit.changeToSafe (h : UnitsFit s) (hcars : CarsFit s) : UnitsFit (changeToSafe s) := by
  have hparked := forCars_only parkForSafe_only (Machine.setOpState .safe s)
  refine .of_safe hcars.changeToSafe (changeToSafe_opState s) fun u => ?_
  have hbefore : (forCars parkForSafe (Machine.setOpState .safe s)).cars.lastHanded =
      s.cars.lastHanded := hparked.lastHanded
  unfold Machine.changeToSafe
  generalize forCars parkForSafe (Machine.setOpState .safe s) = v at hbefore ⊢
  unfold parkAllWaiting
  split
  · simp only [hbefore]
    exact h.entries u
  · have hentry : (Vector.replicate 12 CmdEntry.parked)[u] = .parked := by simp
    exact hentry.symm ▸ parked_fit

theorem UnitsFit.setTarget (h : UnitsFit s) (hcars : CarsFit s) (target : OpState) :
    UnitsFit (setTarget target s).2 := by
  have hchanged : ∀ before {u : State}, UnitsFit u → UnitsFit (changed before u).2 :=
    fun before u hu => hu.of_frame (changed_frame before u)
  have hrefused : ∀ f, UnitsFit (refuseLeaving target f s).2 :=
    fun f => h.of_frame (refuseLeaving_frame target f s)
  have hgoes : s.executor.opState ≠ .safe → ∀ op, UnitsApart (Machine.setOpState op s) :=
    fun hop _ _ => h.apart hop
  have hleaves : leaveCheck s = none → ∀ op, UnitsApart (Machine.setOpState op s) :=
    fun hcheck _ _ _ _ => leaveCheck_apart hcheck
  unfold Machine.setTarget
  split
  case h_1 => exact h
  case h_2 => exact h
  case h_3 => exact h
  case h_4 => exact hchanged _ (h.changeToSafe hcars)
  case h_5 => exact hchanged _ (h.changeToSafe hcars)
  case h_6 hop => exact hchanged _ (h.changeToActive (hgoes (by simp [hop]) _))
  case h_7 hop => exact hchanged _ (h.changeToStandby (hgoes (by simp [hop]) _))
  case h_8 =>
    split
    · exact hrefused _
    · rename_i hcheck
      exact hchanged _ (h.setOpState (hleaves hcheck _))
  case h_9 =>
    split
    · exact hrefused _
    · rename_i hcheck
      exact hchanged _ (h.changeToActive (hleaves hcheck _))

theorem UnitsFit.actSetState (h : UnitsFit s) (hcars : CarsFit s) (p : List Byte) :
    UnitsFit (actSetState p s).2 := by
  unfold Machine.actSetState
  split
  · exact h
  · exact h.setTarget hcars _

/-- What a warm restart changes once the cars are parked (R158). -/
theorem restartBlocks_parked (s : State) :
    SameBut (.demand :: .sensor :: .odo :: lineFields) (forCars restartCar (Machine.setOpState .safe s))
      (restartBlocks s) := by
  unfold Machine.restartBlocks
  dsimp only
  generalize forCars restartCar (Machine.setOpState .safe s) = v
  exact (((restartOdometry_frame v).mono (by decide)).trans ((setSensor_frame _ _).mono (by decide))).trans
    (((setDemand_frame _ _).mono (by decide)).trans
      (((lineClear_frame _ _).mono (by decide)).trans ((setMarker_frame _ _).mono (by decide))))

/-- R158: a warm restart leaves the entries last handed. -/
theorem UnitsFit.restartBlocks (h : UnitsFit s) (hcars : CarsFit s) : UnitsFit (restartBlocks s) := by
  have honly := forCars_only (f := restartCar) (fun c t => setChannel_only c _ t)
    (Machine.setOpState .safe s)
  have hparked := restartBlocks_parked s
  have hentries : (Machine.restartBlocks s).cars.lastHanded = s.cars.lastHanded :=
    (congrArg Cars.lastHanded (hparked .cars (by decide))).trans honly.lastHanded
  have hexecutor : (Machine.restartBlocks s).executor = (Machine.setOpState .safe s).executor :=
    (hparked .executor (by decide)).trans (honly.frame .executor (by decide))
  exact .of_safe hcars.restartBlocks (congrArg Executor.opState hexecutor) fun u => by
    simp only [hentries]
    exact h.entries u

/-! ## Requests about cars -/

/-- R139: a profile is written for a car at rest, and outside SAFE an OFF car is enabled only on a unit that
no other enabled car has. -/
theorem actSetCarProfile_unshared (p : List Byte) (s : State) :
    (actSetCarProfile p s).2 = s ∨ ∃ c x, (s.channel c).state.moving = false ∧
      (s.executor.opState ≠ .safe → (s.channel c).state = .off → x.enabled = true →
        s.unitTaken c = false) ∧
      (actSetCarProfile p s).2 = applyCarProfile c x s := by
  unfold actSetCarProfile
  split
  · exact .inl rfl
  · split
    · exact .inl rfl
    · dsimp only
      split
      · exact .inl rfl
      · split
        · exact .inl rfl
        · rename_i hstill
          split
          · exact .inl rfl
          · rename_i hclash
            refine .inr ⟨_, _, by simpa using hstill, fun hop hoff hon => ?_, rfl⟩
            rw [← Bool.not_eq_true]
            exact fun htaken => hclash ⟨hop, hoff, hon, htaken⟩

theorem unitTaken_false {c : Car} (h : s.unitTaken c = false) {d : Car} (hd : d ≠ c)
    (hon : s.enabled d = true) : s.unitOf d ≠ s.unitOf c := by
  intro hunit
  have hnot := List.any_eq_false.1 h d (mem_allCars d)
  simp [hd, hon, hunit] at hnot

/-- R139, R140: a profile written for a car at rest, whose unit no other enabled car has outside SAFE where
the car is enabled or becomes so. -/
theorem UnitsFit.applyCarProfile {c : Car} {x : CarProfile} (h : UnitsFit s) (hcars : CarsFit s)
    (hfree : s.executor.opState ≠ .safe → (s.channel c).state = .off → x.enabled = true →
      s.unitTaken c = false) : UnitsFit (applyCarProfile c x s) := by
  obtain ⟨hown, hothers⟩ := writeCarProfile_enabled c x s
  have halone : s.executor.opState ≠ .safe → (s.enabled c = true ∨ x.enabled = true) →
      ∀ d, d ≠ c → s.enabled d = true → s.unitOf d ≠ s.unitOf c := by
    intro hop hon d hd hdon hunit
    by_cases hoff : (s.channel c).state = .off
    · have hx := hon.resolve_left (by simp [(hcars c).off.1 hoff, State.enabled])
      exact unitTaken_false (hfree hop hoff hx) hd hdon hunit
    · exact hd (h.apart hop d c hdon ((hcars c).enabled hoff) hunit)
  have hunshared : (s.enabled c = true ∨ x.enabled = true) → Unshared s c := fun hon d hd hmoving =>
    halone ((hcars d).not_safe hmoving) hon d hd ((hcars d).enabled (ChanState.moving_ne hmoving).1)
  have hwritten : UnitsFit (writeCarProfile c x s) := by
    refine ⟨fun hop d e hd he hunit => ?_, h.entries, h.stands⟩
    by_cases hdc : d = c
    · subst hdc
      by_contra hne
      rw [hown] at hd
      rw [hothers e (Ne.symm hne)] at he
      exact halone hop (.inr hd) e (Ne.symm hne) he hunit.symm
    · rw [hothers d hdc] at hd
      by_cases hec : e = c
      · subst hec
        rw [hown] at he
        exact absurd hunit (halone hop (.inr he) d hdc hd)
      · rw [hothers e hec] at he
        exact h.apart hop d e hd he hunit
  unfold Machine.applyCarProfile
  dsimp only
  split
  · split
    · rename_i hx
      have hstill := hwritten.enterStill (st := .parked) rfl (hunshared (.inr hx))
      have hset := hstill.setStill (c := c) (x := { (Machine.enterStill c .parked (writeCarProfile c x s)).channel c with
        lastState := none, lastActual := none, lastEcho := none, age := 0, run := 0 })
        (by rw [enterStill_channel]; rfl)
      exact hset.of_frame (setRegime_frame c .reset _)
    · exact hwritten
  · rename_i hon
    split
    · exact hwritten
    · have hstill := hwritten.enterStill (st := .off) rfl
        (hunshared (.inl ((hcars c).enabled hon)))
      unfold disableCar
      generalize Machine.enterStill c .off (writeCarProfile c x s) = u at hstill ⊢
      exact hstill.of_frame (markerDisable_frame c u)

theorem UnitsFit.actSetCarProfile (h : UnitsFit s) (hcars : CarsFit s) (p : List Byte) :
    UnitsFit (actSetCarProfile p s).2 := by
  rcases actSetCarProfile_unshared p s with e | ⟨c, x, -, hfree, e⟩ <;> rw [e]
  · exact h
  · exact h.applyCarProfile hcars hfree

/-- R142: the car order map is replaced in SAFE alone. -/
theorem UnitsFit.actSetCarOrder (h : UnitsFit s) (hcars : CarsFit s) (p : List Byte) :
    UnitsFit (actSetCarOrder p s).2 := by
  unfold Machine.actSetCarOrder
  split
  · exact h
  · rename_i hsafe
    split
    · exact h
    · split
      · exact h
      · rename_i m _ _
        obtain ⟨-, hentries, hop⟩ := writeOrder_kept m s
        refine .of_safe (hcars.writeOrder m) (hop.trans (not_not.1 hsafe)) fun u => ?_
        simp only [hentries, done_snd]
        exact h.entries u

/-- R138: a FAILED car, which is enabled, becomes PARKED. -/
theorem UnitsFit.actClearCar (h : UnitsFit s) (hcars : CarsFit s) (p : List Byte) :
    UnitsFit (actClearCar p s).2 := by
  unfold Machine.actClearCar
  split
  · exact h
  · split
    · exact h
    · split
      · exact h
      · rename_i c _ _ hfailed
        have hon : s.enabled c = true := (hcars c).enabled (by simp [not_not.1 hfailed])
        have hstill := h.enterStill (st := .parked) rfl (h.unshared hcars hon)
        exact hstill.setStill (by rw [enterStill_channel]; rfl)

/-! ## The settled obligation -/

theorem UnitsFit.act {name : RequestName} {act : List Byte → State → Reply × State}
    (hact : name.act = some act) (p : List Byte) (h : UnitsFit s) (hcars : CarsFit s) :
    UnitsFit (act p s).2 := by
  have hframe := act_frame hact p s
  cases name <;> cases hact
  case setState => exact h.actSetState hcars p
  case setCarProfile => exact h.actSetCarProfile hcars p
  case setCarOrder => exact h.actSetCarOrder hcars p
  case clearCar => exact h.actClearCar hcars p
  all_goals exact h.of_frame hframe (by decide)

theorem UnitsFit.deliver (h : UnitsFit s) (hcars : CarsFit s) (role : Role) (p : List Byte) :
    UnitsFit (deliver role p s) := by
  cases role with
  | sensorP => exact h.of_frame (handleSensor_frame .p p s)
  | sensorQ => exact h.of_frame (handleSensor_frame .q p s)
  | odometry => exact h.of_profiles (handleOdometry_frame p s) (handleOdometry_profiles p s)
  | markerReader => exact h.of_frame (handleMarker_frame p s)
  | unitStatus => exact h.handleUnitStatus hcars p
  | manager => exact h

theorem UnitsFit.event (hevent : BlockEvent s t) (hp : ProfilesSound s) (hcars : CarsFit s)
    (h : UnitsFit s) : UnitsFit t := by
  cases hevent with
  | deliver role p => exact h.deliver hcars role p
  | odometryExpiry => exact h.of_profiles (odometryExpiry_frame s) (odometryExpiry_profiles s)
  | channelExpiry x => exact h.of_frame (channelExpiry_frame x s)
  | commandExpiry => exact h.commandExpiry hcars hp
  | attentionExpiry => exact h.of_frame (attentionExpiry_frame s)
  | restart => exact h.restartBlocks hcars
  | act hact p => exact h.act hact p hcars

theorem reset_unitsFit : UnitsFit .reset := by
  refine .of_safe reset_carsFit rfl fun u => ?_
  have hentry : State.reset.cars.lastHanded[u] = .parked := by simp [State.reset, Cars.reset]
  rw [hentry]
  exact parked_fit

end Fit

/-- Settles O58: a car that comes to rest has its unit sent PARK, which no other car that moves shares; a
frame is handed with the entries of the cars as they stand; and SAFE is left with a unit for every enabled
car. The waiting frame and the last handed entries are rewritten together. -/
theorem handedFramesStaySound : Obligations.HandedFramesStaySound := by
  intro s t hp hcars hhanded hstep
  rw [carsSound_iff] at hcars
  rw [handedSound_iff] at hhanded ⊢
  obtain ⟨hunits, hwaiting⟩ := hhanded
  exact ⟨step_keeps_of_event (H := fun s => ProfilesSound s ∧ CarsFit s) (P := UnitsFit)
    (fun k hs => ⟨(SameProfiles.of_frame k.frame).sound hs.1, hs.2.of_traffic k⟩)
    (fun k h => h.of_traffic k) reset_unitsFit (fun hevent hs => UnitsFit.event hevent hs.1 hs.2)
    ⟨hp, hcars⟩ hunits hstep, hwaiting.step hstep⟩

end Sys2Proof.Machine
end

section
/-! Clear Car and Set Car Order (R138, R142): the refusals in their order, and the whole state that each
leaves. A car that comes to rest has its unit sent PARK in a COMMAND frame that waits (R145). -/

set_option Elab.async false

namespace Sys2Proof.Machine

/-! ## A car brought to rest -/

/-- R145: car `c` takes the record `x`, at rest; while a COMMAND frame waits, its unit's entry there and the
unit's last handed entry become PARK. -/
def State.rested (c : Car) (x : CarChannel) (s : State) : State :=
  let waits := s.ports.waiting.map
    (fun w => { w with entries := w.entries.set (s.unitOf c) { mode := .park, angle := 0 } })
  let handed := if s.ports.waiting = none then s.cars.lastHanded
    else s.cars.lastHanded.set (s.unitOf c) { mode := .park, angle := 0 }
  (s.setCars { s.cars with channels := s.cars.channels.set c x, lastHanded := handed }).setPorts
    { s.ports with waiting := waits }

@[simp] theorem rested_channel (c : Car) (x : CarChannel) (s : State) : (s.rested c x).channel c = x :=
  vector_set_same _ _ _

theorem rested_other {c d : Car} (x : CarChannel) (s : State) (h : d ≠ c) :
    (s.rested c x).channel d = s.channel d := vector_set_other _ _ h

theorem setChannel_rested (c : Car) (x y : CarChannel) (s : State) :
    setChannel c y (s.rested c x) = s.rested c y := by
  have hset : (s.cars.channels.set c x).set c y = s.cars.channels.set c y := by simp
  simp only [State.rested, ← hset]
  rfl

/-- R115, R145: an entry to PARKED, OFF or FAILED. -/
theorem enterStill_eq (c : Car) (st : ChanState) (s : State) :
    enterStill c st s = s.rested c { s.channel c with
      state := st, thetaPrev := 0, parkHeld := false,
      run := if st = .failed then 0 else (s.channel c).run } := by
  have rewritten : ∀ x, parkWaiting (s.unitOf c) (setChannel c x s) = s.rested c x := by
    intro x
    rw [parkWaiting_eq_sentPark]
    unfold State.rested State.sentPark
    cases hw : s.ports.waiting <;> simp [setChannel, hw] <;> rfl
  exact rewritten _

/-- R12, R171: the waiting frame plays no part in a reply. -/
theorem foreAdmit_waiting (p : Ports) (w : Option CommandFrame) (f : Frame) :
    Ports.foreAdmit { p with waiting := w } f = { Ports.foreAdmit p f with waiting := w } := by
  obtain ⟨aftTx, foreTx, aftSeq, foreSeq, aftQueue, foreQueue, waiting, reservation⟩ := p
  cases foreTx with
  | some x => rfl
  | none => cases foreQueue <;> rfl

/-- A reply placed on ports that differ from those of the taking by the waiting frame alone. -/
theorem placeReply_of_waiting {s u : State} {r : Request} {rest : List Request} (a : Reply)
    (h : Heads s r rest) {w : Option CommandFrame}
    (hp : u.ports = { (s.taken rest).ports with waiting := w }) (hn : u.nodeAddress = s.nodeAddress) :
    placeReply r a u = u.setPorts { (s.answered r rest a).ports with waiting := w } := by
  have hf : replyFrame r a u = replyFrame r a s := by
    simp only [replyFrame, hn, hp]; rfl
  have hplaced := congrArg (fun p : Ports => { p with waiting := w })
    (Ports.foreAdmit_reserved s.ports (replyFrame r a s) (s.ports.foreSeq + 1)
      (State.canTake_reservation h.2))
  have hadmit := foreAdmit_waiting { (s.taken rest).ports with reservation := false } w
    (replyFrame r a s)
  unfold placeReply
  rw [hf, hp]
  refine congrArg u.setPorts (Eq.trans ?_ hplaced)
  exact congrArg (fun p : Ports => { p with foreSeq := s.ports.foreSeq + 1 }) hadmit

/-- The reply does not touch the waiting frame. -/
theorem answered_waiting (s : State) (r : Request) (rest : List Request) (a : Reply) :
    (s.answered r rest a).ports.waiting = s.ports.waiting := by
  have hf := foreAdmit_waiting s.ports s.ports.waiting (replyFrame r a s)
  have hwaiting := congrArg Ports.waiting hf
  exact hwaiting

/-- A car brought to rest by a request, and the reply placed. -/
theorem placeReply_rested {s : State} {r : Request} {rest : List Request} (a : Reply)
    (h : Heads s r rest) (c : Car) (x : CarChannel) :
    placeReply r a ((s.taken rest).rested c x) = (s.answered r rest a).rested c x := by
  have hplaced : placeReply r a ((s.taken rest).rested c x) = _ :=
    placeReply_of_waiting a h rfl rfl
  rw [hplaced]
  unfold State.rested
  rw [answered_waiting]
  rfl

/-! ## Clear Car -/

theorem clearCar_eq (c : Car) (s : State) :
    clearCar c s = s.rested c
      { s.channel c with state := .parked, thetaPrev := 0, run := 0, parkHeld := false } := by
  unfold clearCar
  simp only [enterStill_eq, setChannel_rested, rested_channel]

/-- Settles O38: the three tests of R138 in their order; a FAILED car is brought to rest PARKED. -/
theorem clearCarOutcomes : Obligations.ClearCarOutcomes := by
  unfold Obligations.ClearCarOutcomes
  intro s r rest h ok
  have hrefused : ∀ {code}, actClearCar r.payload (s.taken rest) = (.bare code, s.taken rest) →
      exec .clearCar s = .next (s.answered r rest (.bare code)) :=
    fun e => congrArg Host.Outcome.next (serve_answers h e)
  refine ⟨fun hc => hrefused ?_, fun c hc => ?_⟩
  · simp only [actClearCar, readFin_none (show 12 ≤ field r.payload 0 1 from hc)]
    rfl
  have hread : readFin 12 (field r.payload 0 1) = some c := by rw [hc, readFin_val]
  refine ⟨fun hactive => hrefused ?_, fun hactive hfailed => hrefused ?_, fun hactive hfailed => ?_⟩
  · simp only [actClearCar, hread]
    exact if_pos hactive
  · simp only [actClearCar, hread]
    exact (if_neg hactive).trans (if_pos hfailed)
  · have hact : actClearCar r.payload (s.taken rest) = done (clearCar c (s.taken rest)) := by
      simp only [actClearCar, hread]
      exact (if_neg hactive).trans (if_neg (not_not.mpr hfailed))
    have hrun : exec .clearCar s = .next (ok.rested c
        { s.channel c with state := .parked, thetaPrev := 0, run := 0, parkHeld := false }) := by
      refine congrArg Host.Outcome.next ((serve_serves h).trans ?_)
      rw [hact, clearCar_eq]
      exact placeReply_rested _ h.1 c _
    have hwaits : ok.ports.waiting = s.ports.waiting := answered_waiting s r rest _
    refine ⟨_, hrun, rested_channel _ _ _, fun d hd => rested_other _ _ hd,
      fun hnone => ⟨?_, if_pos (hwaits.trans hnone)⟩, fun w hw => ⟨?_, if_neg ?_⟩, rfl⟩
    · exact congrArg (Option.map _) (hwaits.trans hnone)
    · exact congrArg (Option.map _) (hwaits.trans hw)
    · rw [hwaits, hw]
      exact Option.some_ne_none w

/-! ## Set Car Order -/

/-- R142: a position's record without the status of its unit. -/
def CarChannel.unheard (x : CarChannel) : CarChannel :=
  { x with lastState := none, lastActual := none, lastEcho := none, age := 0, run := 0 }

/-- R142: the status goes where the map gives another unit. -/
theorem forgot_channel (m : Vector UnitId 12) (s : State) (c : Car) :
    (s.forgot m).channel c = if m[c] = s.unitOf c then s.channel c else (s.channel c).unheard := by
  refine forCars_channel (keep := fun _ => True)
    (g := fun c x => if m[c] = s.unitOf c then x else x.unheard)
    (fun _ _ _ => trivial) (fun c t _ => ?_) (fun c d t _ hd => ?_) s trivial c
  · split
    · rfl
    · exact setChannel_same _ _ _
  · split
    · rfl
    · exact setChannel_other _ _ hd

/-- R142: the map that the twelve unit ids of a payload give. -/
def orderOf (p : List Byte) : Vector UnitId 12 := tabulate (fun c => Fin.ofNat 12 (field p c.val 1))

theorem orderOf_val {p : List Byte} {c : Car} (h : field p c.val 1 ≤ 11) :
    ((orderOf p)[c]).val = field p c.val 1 := by
  have hget : (orderOf p)[c] = Fin.ofNat 12 (field p c.val 1) := tabulate_get _ c
  rw [hget]
  exact Nat.mod_eq_of_lt (by omega)

theorem readOrder_some {p : List Byte} (h : ∀ c : Car, field p c.val 1 ≤ 11) :
    readOrder p = some (orderOf p) := by
  have hall : allCars.all (fun c => field p c.val 1 < 12) = true :=
    List.all_eq_true.2 fun c _ => decide_eq_true (Nat.lt_succ_of_le (h c))
  exact if_pos hall

theorem readOrder_none {p : List Byte} {c : Car} (h : 11 < field p c.val 1) : readOrder p = none := by
  refine if_neg fun hall => ?_
  have hc := of_decide_eq_true (List.all_eq_true.1 hall c (mem_allCars c))
  omega

theorem orderClash_iff (m : Vector UnitId 12) (s : State) :
    s.orderClash m = true ↔
      ∃ c d, c ≠ d ∧ s.enabled c = true ∧ s.enabled d = true ∧ m[c] = m[d] := by
  simp only [State.orderClash, List.any_eq_true, mem_enabledCars, Bool.and_eq_true, decide_eq_true_eq]
  constructor
  · rintro ⟨c, hc, d, hd, hlt, hunit⟩
    exact ⟨c, d, (ne_of_lt hlt).symm, hc, hd, hunit.symm⟩
  · rintro ⟨c, d, hne, hc, hd, hunit⟩
    rcases lt_or_gt_of_ne hne with hlt | hlt
    · exact ⟨d, hd, c, hc, hlt, hunit⟩
    · exact ⟨c, hc, d, hd, hlt, hunit.symm⟩

/-- Settles O37: the three tests of R142 in their order, the map written, and each position whose unit
changes without the status of its old unit. -/
theorem setCarOrderOutcomes : Obligations.SetCarOrderOutcomes := by
  unfold Obligations.SetCarOrderOutcomes
  intro s r rest h id
  have hrefused : ∀ {code}, actSetCarOrder r.payload (s.taken rest) = (.bare code, s.taken rest) →
      exec .setCarOrder s = .next (s.answered r rest (.bare code)) :=
    fun e => congrArg Host.Outcome.next (serve_answers h e)
  have hval : (∀ c, id c ≤ 11) → ∀ c : Car, ((orderOf r.payload)[c]).val = id c :=
    fun hid c => orderOf_val (hid c)
  have hclash : (∀ c, id c ≤ 11) → ((s.taken rest).orderClash (orderOf r.payload) = true ↔
      ∃ c d, c ≠ d ∧ s.enabled c = true ∧ s.enabled d = true ∧ id c = id d) := fun hid => by
    refine (orderClash_iff _ _).trans (exists_congr fun c => exists_congr fun d => ?_)
    rw [Fin.ext_iff, hval hid, hval hid]
    rfl
  refine ⟨fun hop => hrefused ?_, fun hop hout => hrefused ?_, fun hop hid hshared => hrefused ?_,
    fun hop hid hapart => ?_⟩
  · exact if_pos hop
  · obtain ⟨c, hc⟩ := hout
    refine (if_neg (not_not.mpr hop)).trans ?_
    rw [readOrder_none hc]
    rfl
  · refine (if_neg (not_not.mpr hop)).trans ?_
    rw [readOrder_some hid]
    exact if_pos ((hclash hid).2 hshared)
  · have hnoclash : ¬ (s.taken rest).orderClash (orderOf r.payload) = true := fun hc => by
      obtain ⟨c, d, hne, hcon, hdon, hunit⟩ := (hclash hid).1 hc
      exact hne (hapart c d hcon hdon hunit)
    have hact : actSetCarOrder r.payload (s.taken rest) =
        done (writeOrder (orderOf r.payload) (s.taken rest)) := by
      refine (if_neg (not_not.mpr hop)).trans ?_
      rw [readOrder_some hid]
      exact if_neg hnoclash
    have hframe := writeOrder_frame (orderOf r.payload) (s.taken rest)
    have honly := forgot_only (orderOf r.payload) (s.taken rest)
    have hforgot := honly.eq (forgot_channel (orderOf r.payload) (s.taken rest))
    have hrun : exec .setCarOrder s = .next ((writeOrder (orderOf r.payload) (s.taken rest)).setPorts
        (s.answered r rest (.bare .ok)).ports) :=
      congrArg Host.Outcome.next
        (serve_changes h hact (hframe .ports (by decide)) (hframe .nodeAddress (by decide)))
    rw [writeOrder_eq, hforgot] at hrun
    refine ⟨_, hrun, hval hid, fun c => ?_, rfl⟩
    refine (withChannels_channel (s.taken rest) _ c).trans (if_congr ?_ rfl rfl)
    rw [Fin.ext_iff, hval hid]
    exact eq_comm

end Sys2Proof.Machine
end

section
/-! Set Car Profile (R139, R140): its refusals in their order, a car enabled with a fresh record, and a car
disabled, which no marker holds and no hold names any longer (R90). -/

set_option Elab.async false

namespace Sys2Proof.Machine

/-! ## A car that the marker unit has let go -/

/-- R90: no marker holds the car, no hold is its, and it does not wait. -/
structure CarGone (c : Car) (s : State) : Prop where
  idle : (s.regime c).waiting = none
  left : ∀ m ∈ s.marker.queue, c ∉ m.pending
  unheld : ∀ hold ∈ s.marker.attention, hold.car ≠ c

theorem CarGone.of_marker {c : Car} {s t : State} (h : CarGone c s) (e : t.marker = s.marker) :
    CarGone c t := by
  constructor
  · rw [State.regime, e]
    exact h.idle
  · rw [e]
    exact h.left
  · rw [e]
    exact h.unheld

theorem carPass_attention (w : Bool) (c : Car) (q : List Marker) (s : State) :
    (carPass w c q s).marker.attention = s.marker.attention := by
  induction q generalizing s with
  | nil => rfl
  | cons m q ih =>
    unfold carPass
    split
    · split
      · dsimp only
        split
        · rfl
        · rw [ih, applyEntry_marker]
      · rfl
    · exact ih s

theorem passCar_attention (w : Bool) (c : Car) (s : State) :
    (passCar w c s).marker.attention = s.marker.attention := by
  unfold passCar
  split
  · exact carPass_attention w c _ s
  · rfl

/-- R81: the turn of any car leaves a car that is gone where it is. -/
theorem CarGone.passCar {c : Car} {s : State} (h : CarGone c s) (w : Bool) (d : Car) :
    CarGone c (passCar w d s) := by
  by_cases hd : c = d
  · subst hd
    have hnone : s.oldest c = none :=
      List.find?_eq_none.2 fun m hm hc => h.left m hm (List.contains_iff_mem.1 hc)
    rw [passCar_none hnone]
    exact h
  · constructor
    · rw [passCar_regime_other w s hd]
      exact h.idle
    · intro m hm hc
      obtain ⟨x, hx, -, hsub⟩ := (passCar_thinned w d s).origin hm
      exact h.left x hx (hsub hc)
    · rw [passCar_attention]
      exact h.unheld

/-- R84: the arbiter serves a car that waits. -/
theorem CarGone.arbiter {c : Car} {s : State} (h : CarGone c s) : CarGone c (arbiter s) := by
  rcases arbiter_cases s with e | ⟨m, d, -, hserve, e⟩
  · rw [e]
    exact h
  · obtain ⟨-, hwaits⟩ := toServe_some hserve
    constructor
    · rw [State.regime, e]
      exact h.idle
    · rw [e]
      exact h.left
    · rw [e]
      intro hold hhold hcar
      obtain rfl := Option.some.inj hhold
      have hcar : d = c := hcar
      rw [hcar, h.idle] at hwaits
      cases hwaits

theorem CarGone.pass {c : Car} {s : State} (h : CarGone c s) (w : Bool) : CarGone c (pass w s) :=
  (forCars_keeps (fun d _ ht => ht.passCar w d) s h).arbiter

theorem carGone_of_disabled {c : Car} {s t : State} (h : t.marker = s.marker.disabled c) :
    CarGone c t := by
  constructor
  · rw [State.regime, h]
    exact congrArg CarRegime.waiting (vector_set_same _ _ _)
  · intro m hm hc
    rw [h] at hm
    obtain ⟨y, -, rfl⟩ := List.mem_map.1 (List.mem_of_mem_filter hm)
    simpa using List.of_mem_filter hc
  · intro hold hhold hcar
    rw [h] at hhold
    unfold MarkerUnit.disabled at hhold
    dsimp only at hhold
    split at hhold
    · cases hhold
    · rename_i hany
      exact hany (Option.any_eq_true _ _ |>.2 ⟨hold, hhold, by simpa using hcar⟩)

theorem carGone_markerDisable (c : Car) (s : State) : CarGone c (markerDisable c s) := by
  obtain ⟨t, ht, hmarker, -⟩ := markerDisable_eq c s
  rw [ht]
  exact (carGone_of_disabled hmarker).pass false

/-- R90: the hold `a` withdrawn if it is car `c`'s, with the car's regime and authority in its report. -/
def State.unheld (c : Car) (a : Option Attention) (x : CarRegime) (s : State) : State :=
  match a with
  | some hold =>
    if hold.car = c then
      offerReport (.attentionEnd .withdrawn hold.serial c x.regime x.authority)
        (s.setMarker { s.marker with attention := none })
    else s
  | none => s

theorem unheld_eq {c : Car} {a : Option Attention} {s : State} (h : s.marker.attention = a) :
    (if s.marker.attention.any (fun hold => hold.car = c) then withdraw s else s) =
      s.unheld c a (s.regime c) := by
  subst h
  unfold State.unheld withdraw
  cases s.marker.attention with
  | none => rfl
  | some hold =>
    by_cases hcar : hold.car = c
    · subst hcar
      simp only [Option.any_some, decide_true, if_true]
      rfl
    · simp [hcar]

theorem unheld_regime (c d : Car) (a : Option Attention) (x : CarRegime) (s : State) :
    (s.unheld c a x).regime d = s.regime d := by
  unfold State.unheld
  split
  · split
    · rw [State.regime, offerReport_marker]
      rfl
    · rfl
  · rfl

/-- R90: what a disabling does before its pass: the markers that this empties leave, the hold is withdrawn
and the car does not wait. -/
theorem markerDisable_unheld (c : Car) (s : State) :
    let free := (dropEmptied false (s.left c)).unheld c s.marker.attention (s.regime c)
    markerDisable c s = pass false (free.setMarker
      { free.marker with cars := free.marker.cars.set c { s.regime c with waiting := none } }) := by
  intro free
  have hmarker := dropEmptied_marker false (s.left c)
  have hattention : (dropEmptied false (s.left c)).marker.attention = s.marker.attention := by
    rw [hmarker]
    rfl
  have hregime : (dropEmptied false (s.left c)).regime c = s.regime c := by
    rw [State.regime, hmarker]
    rfl
  have hfree := unheld_eq (c := c) hattention
  rw [hregime] at hfree
  have hown : free.regime c = s.regime c := (unheld_regime c c _ _ _).trans hregime
  calc markerDisable c s = pass false (stopWaiting c (if (dropEmptied false (s.left c)).marker.attention.any
          (fun hold => hold.car = c) then withdraw (dropEmptied false (s.left c))
        else dropEmptied false (s.left c))) := rfl
    _ = pass false (stopWaiting c free) := by rw [hfree]
    _ = _ := by rw [stopWaiting, hown]; rfl

/-! ## The request -/

theorem enableCar_eq (c : Car) (s : State) :
    enableCar c s = setRegime c .reset (s.rested c
      { state := .parked, thetaPrev := 0, lastState := none, lastActual := none,
        lastEcho := none, age := 0, run := 0, parkHeld := false }) := by
  unfold enableCar
  simp only [enterStill_eq, setChannel_rested, rested_channel]

theorem disableCar_eq (c : Car) (s : State) :
    disableCar c s = markerDisable c (s.rested c
      { s.channel c with state := .off, thetaPrev := 0, parkHeld := false }) := by
  rw [disableCar, enterStill_eq]
  rfl

theorem inRange_iff (x : CarProfile) (len : Nat) : x.inRange len = true ↔
    x.tapOffset ≤ 4095 ∧ x.preview ≤ 63 ∧ x.gain ≤ 4095 ∧ x.fullLimit ≤ 1000 ∧
      x.limitedLimit ≤ x.fullLimit ∧ 1 ≤ x.rateStep ∧ x.rateStep ≤ 50 ∧ x.weight ≤ 256 ∧
      x.tapOffset + 1 < len := by
  simp only [CarProfile.inRange, Bool.and_eq_true, decide_eq_true_eq, and_assoc]

theorem moving_iff (st : ChanState) :
    st.moving = true ↔ st = .following ∨ st = .centring ∨ st = .hold := by cases st <;> decide

theorem unitTaken_iff (c : Car) (s : State) :
    s.unitTaken c = true ↔ ∃ d, d ≠ c ∧ s.enabled d = true ∧ s.unitOf d = s.unitOf c := by
  simp only [State.unitTaken, List.any_eq_true, Bool.and_eq_true, decide_eq_true_eq, and_assoc,
    mem_allCars, true_and]

/-- R139: the tests that follow the reading of the position and of the enabled field. -/
theorem actSetCarProfile_read {p : List Byte} {c : Car} {enabled : Bool}
    (hc : field p 0 1 = c.val) (he : field p 1 1 = boolCode enabled) (s : State) :
    actSetCarProfile p s =
      if !(readCarProfile p enabled).inRange s.profile.lineLength then refuse .range s
      else if (s.channel c).state.moving then refuse .notParked s
      else if s.executor.opState ≠ .safe ∧ (s.channel c).state = .off ∧ enabled = true ∧
          s.unitTaken c = true then refuse .format s
      else done (applyCarProfile c (readCarProfile p enabled) s) := by
  simp only [actSetCarProfile, hc, he, readFin_val, readBool_code]

/-- R140: the three effects of a written profile. -/
theorem applyCarProfile_cases (c : Car) (x : CarProfile) (s : State) :
    (((s.channel c).state = .off ↔ x.enabled = false) →
      applyCarProfile c x s = writeCarProfile c x s) ∧
    ((s.channel c).state = .off → x.enabled = true →
      applyCarProfile c x s = enableCar c (writeCarProfile c x s)) ∧
    ((s.channel c).state ≠ .off → x.enabled = false →
      applyCarProfile c x s = disableCar c (writeCarProfile c x s)) := by
  refine ⟨fun hiff => ?_, fun hoff hon => ?_, fun hoff hon => ?_⟩
  · by_cases hoff : (s.channel c).state = .off
    · exact (if_pos hoff).trans (if_neg (by simp [hiff.1 hoff]))
    · exact (if_neg hoff).trans (if_pos (by simpa using mt hiff.2 hoff))
  · exact (if_pos hoff).trans (if_pos hon)
  · exact (if_neg hoff).trans (if_neg (by simp [hon]))

section Served

variable {s : State} {r : Request} {rest : List Request} {c : Car} {x : CarProfile}

theorem serve_written (h : Serves s .setCarProfile r rest)
    (hact : actSetCarProfile r.payload (s.taken rest) = done (writeCarProfile c x (s.taken rest))) :
    exec .setCarProfile s = .next (writeCarProfile c x (s.answered r rest (.bare .ok))) :=
  congrArg Host.Outcome.next ((serve_changes h hact rfl rfl).trans rfl)

/-- A car brought to rest with a new profile and regime record, and the reply placed. -/
theorem placeReply_profiled (a : Reply) (h : Heads s r rest) (y : CarChannel) (z : CarRegime) :
    placeReply r a (setRegime c z ((writeCarProfile c x (s.taken rest)).rested c y)) =
      setRegime c z ((writeCarProfile c x (s.answered r rest a)).rested c y) := by
  have hplaced : placeReply r a (setRegime c z ((writeCarProfile c x (s.taken rest)).rested c y)) = _ :=
    placeReply_of_waiting a h rfl rfl
  have hwaits : (writeCarProfile c x (s.answered r rest a)).ports.waiting = s.ports.waiting :=
    answered_waiting s r rest a
  rw [hplaced]
  unfold State.rested
  rw [hwaits]
  rfl

/-- R140: the state that an enabled car leaves. -/
theorem serve_enabled (h : Serves s .setCarProfile r rest)
    (hact : actSetCarProfile r.payload (s.taken rest) =
      done (enableCar c (writeCarProfile c x (s.taken rest)))) :
    exec .setCarProfile s = .next
      (setRegime c .reset ((writeCarProfile c x (s.answered r rest (.bare .ok))).rested c
        { state := .parked, thetaPrev := 0, lastState := none, lastActual := none,
          lastEcho := none, age := 0, run := 0, parkHeld := false })) := by
  refine congrArg Host.Outcome.next ((serve_serves h).trans ?_)
  rw [hact, enableCar_eq]
  exact placeReply_profiled _ h.1 _ _

/-- R140, R90: the state that a disabled car leaves. -/
theorem serve_disabled (h : Serves s .setCarProfile r rest)
    (hact : actSetCarProfile r.payload (s.taken rest) =
      done (disableCar c (writeCarProfile c x (s.taken rest)))) :
    exec .setCarProfile s = .next (placeReply r (.bare .ok) (markerDisable c
      ((writeCarProfile c x (s.taken rest)).rested c
        { s.channel c with state := .off, thetaPrev := 0, parkHeld := false }))) := by
  refine congrArg Host.Outcome.next ((serve_serves h).trans ?_)
  have hown : (writeCarProfile c x (s.taken rest)).channel c = s.channel c := rfl
  rw [hact, disableCar_eq, hown, done]

end Served

/-- What a disabling and its reply reach. -/
theorem placeReply_markerDisable_frame (r : Request) (a : Reply) (c : Car) (s : State) :
    SameBut answerFields s (placeReply r a (markerDisable c s)) :=
  (markerDisable_frame c s).trans ((placeReply_frame r a _).mono (by decide))

/-- Settles O36: the tests of R139 in their order; then a profile written alone, a car enabled, brought to
rest with a fresh record, or a car disabled, brought to rest and let go by the marker unit. -/
theorem setCarProfileOutcomes : Obligations.SetCarProfileOutcomes := by
  unfold Obligations.SetCarProfileOutcomes
  intro s r rest h p
  have hrefused : ∀ {code}, actSetCarProfile p (s.taken rest) = (.bare code, s.taken rest) →
      exec .setCarProfile s = .next (s.answered r rest (.bare code)) :=
    fun e => congrArg Host.Outcome.next (serve_answers h e)
  refine ⟨fun hc => hrefused ?_, fun c hc => ⟨fun he => hrefused ?_, fun enabled he => ?_⟩⟩
  · simp only [actSetCarProfile, readFin_none (show 12 ≤ field p 0 1 from hc)]
    rfl
  · simp only [actSetCarProfile, hc, readFin_val, readBool_none he]
    rfl
  intro written fits x moving clash waits handed profiled
  have hread := actSetCarProfile_read hc he (s.taken rest)
  have hfits : (!(readCarProfile p enabled).inRange s.profile.lineLength) = true ↔ ¬fits := by
    rw [Bool.not_eq_true', ← Bool.not_eq_true]
    exact not_congr (inRange_iff _ _)
  have hmoving : x.state.moving = true ↔ moving := moving_iff _
  have hclash : (s.executor.opState ≠ .safe ∧ x.state = .off ∧ enabled = true ∧
      s.unitTaken c = true) ↔ clash := by rw [unitTaken_iff]
  have hpassed : fits → ¬moving → ¬clash →
      actSetCarProfile p (s.taken rest) = done (applyCarProfile c written (s.taken rest)) :=
    fun hf hm hc => hread.trans ((if_neg fun hn => hfits.1 hn hf).trans
      ((if_neg fun hn => hm (hmoving.1 hn)).trans (if_neg fun hn => hc (hclash.1 hn))))
  obtain ⟨plain, enables, disables⟩ := applyCarProfile_cases c written (s.taken rest)
  have hstill : ∀ {st : ChanState}, x.state = st → st.moving = false → ¬moving :=
    fun hst hno hm => by
      have hyes := hmoving.2 hm
      rw [hst, hno] at hyes
      cases hyes
  refine ⟨fun hf => hrefused ?_, fun hf hm => hrefused ?_, fun hf hc => hrefused ?_,
    fun hf hcase => ?_, fun hf hc hoff hon => ?_, fun hf hm hoff hon => ?_⟩
  · exact hread.trans (if_pos (hfits.2 hf))
  · exact hread.trans ((if_neg fun hn => hfits.1 hn hf).trans (if_pos (hmoving.2 hm)))
  · have hno := hstill hc.2.1 rfl
    exact hread.trans ((if_neg fun hn => hfits.1 hn hf).trans
      ((if_neg fun hn => hno (hmoving.1 hn)).trans (if_pos (hclash.2 hc))))
  · have hiff : x.state = .off ↔ enabled = false := by
      rcases hcase with ⟨hx, hon⟩ | ⟨hx | hx, hon⟩ <;> simp [hx, hon]
    have hno : ¬moving := by
      rcases hcase with ⟨hx, -⟩ | ⟨hx | hx, -⟩ <;> exact hstill hx rfl
    have hclear : ¬clash := fun ⟨_, hoff, hon, _⟩ => by simp [hiff.1 hoff] at hon
    refine serve_written h ((hpassed hf hno hclear).trans (congrArg done ?_))
    exact plain hiff
  · have hact := hpassed hf (hstill hoff rfl) hc
    rw [enables hoff hon] at hact
    obtain ⟨hown, hothers⟩ := writeCarProfile_profile c written (s.answered r rest (.bare .ok))
    have hwaits : (writeCarProfile c written (s.answered r rest (.bare .ok))).ports.waiting =
        s.ports.waiting := answered_waiting s r rest _
    refine ⟨_, serve_enabled h hact, rested_channel _ _ _, setRegime_same _ _ _, hown,
      fun d hd => ⟨rested_other _ _ hd, setRegime_other _ _ hd, hothers d hd⟩, ?_⟩
    unfold State.rested
    rw [hwaits]
    rfl
  · have hact := hpassed hf hm fun ⟨_, hx, _⟩ => hoff hx
    rw [disables hoff hon] at hact
    intro off left free
    have hrun : exec .setCarProfile s = .next (placeReply r (.bare .ok) (markerDisable c off)) :=
      serve_disabled h hact
    have hleft : dropEmptied false (off.left c) = left := rfl
    have hfree : left.unheld c s.marker.attention (s.regime c) = free := rfl
    have hmodel : markerDisable c off = pass false (free.setMarker
        { free.marker with cars := free.marker.cars.set c { s.regime c with waiting := none } }) := by
      rw [← hfree, ← hleft]
      exact markerDisable_unheld c off
    have hframe := placeReply_markerDisable_frame r (.bare .ok) c off
    obtain ⟨hidle, hgone, hunheld⟩ := (carGone_markerDisable c off).of_marker
      (placeReply_frame r (.bare .ok) _ .marker (by decide))
    have hcars : (placeReply r (.bare .ok) (markerDisable c off)).cars = off.cars :=
      hframe .cars (by decide)
    have hprofile : ∀ d, (placeReply r (.bare .ok) (markerDisable c off)).carProfile d =
        (writeCarProfile c written s).carProfile d := fun d => by
      rw [State.carProfile, hframe .demand (by decide)]
      rfl
    obtain ⟨hown, hothers⟩ := writeCarProfile_profile c written s
    refine ⟨_, hrun, congrArg _ hmodel, (channel_of_cars hcars c).trans (vector_set_same _ _ _),
      (hprofile c).trans hown, hidle, hgone, hunheld,
      fun d hd => ⟨(channel_of_cars hcars d).trans (vector_set_other _ _ hd),
        (hprofile d).trans (hothers d hd)⟩,
      (congrArg Cars.order hcars).trans rfl, hframe .line (by decide), hframe .odo (by decide),
      hframe .sensor (by decide), hframe .intake (by decide), hframe .profile (by decide)⟩

end Sys2Proof.Machine
end

section
/-! The cold-reset pin (R159): what it stops while it is asserted, the value that its release gives every
field, and the part right after reset, which meets every condition that a step keeps. -/

set_option Elab.async false

namespace Sys2Proof.Machine

/-! ## The pin asserted -/

/-- R159: while the pin is asserted no event takes place. -/
theorem unlessReset_held {f : State → State} {s : State} (h : s.pins.coldReset = true) :
    unlessReset f s = s := if_pos h

/-- R159: while the pin is asserted no request is taken. -/
theorem not_heads_of_held {s : State} (h : s.pins.coldReset = true) (r : Request)
    (rest : List Request) : ¬Heads s r rest := fun hheads => by
  have hrunning := State.canTake_running hheads.2
  rw [h] at hrunning
  cases hrunning

/-- R159: while the pin is asserted an event that is not the pin's own changes nothing. -/
theorem event_held {c : Instr} {f : State → State} (hf : eventOf c = some f)
    (hassert : c ≠ .coldResetAssert) (hrelease : ∀ straps, c ≠ .coldResetRelease straps) {s : State}
    (h : s.pins.coldReset = true) : f s = s := by
  cases c <;> cases hf
  case coldResetAssert => exact absurd rfl hassert
  case coldResetRelease straps => exact absurd rfl (hrelease straps)
  case unknownRequest =>
    exact serveUnknown_none fun r rest hheads => absurd hheads (not_heads_of_held h r rest)
  all_goals exact unlessReset_held h

/-! ## The values after a cold reset -/

/-- R62, R67: no cell is readable. -/
theorem Line.reset_tapRead (len : Nat) (n : Int) : Line.reset.tapRead len n = CellRecord.void n := by
  have hnewest : Line.reset.newest = -1 := rfl
  have hmark : Line.reset.clearMark = 0 := rfl
  refine if_neg fun hreadable => ?_
  simp only [Line.readable, hnewest, hmark, Bool.and_eq_true, decide_eq_true_eq] at hreadable
  omega

/-- R78: every entry leads to its own regime at LIMITED. -/
theorem reset_entry (r : Regime) (cls : MarkerClass) :
    State.reset.entry r cls = ⟨r, .limited, false, false⟩ := by
  have hrow : MarkerUnit.reset.table[r] = regimeRowReset r := by revert r; decide
  have hentry : State.reset.entry r cls = MarkerUnit.reset.table[r][cls] := rfl
  simp [hentry, hrow, regimeRowReset]

theorem reset_unitOf (c : Car) : State.reset.unitOf c = c := by revert c; decide

theorem reset_regime (c : Car) : State.reset.regime c = .reset := by
  simp [State.regime, State.reset, MarkerUnit.reset]

theorem reset_carProfile (c : Car) : State.reset.carProfile c = .reset := by
  simp [State.carProfile, State.reset, Demand.reset]

theorem reset_channel (c : Car) : State.reset.channel c = .reset := by
  simp [State.channel, State.reset, Cars.reset]

/-- R128: no computation is held. -/
theorem reset_last (c : Car) : State.reset.demand.last[c] = none := by
  simp [State.reset, Demand.reset]

/-- R145: every unit was last handed PARK. -/
theorem reset_lastHanded (u : UnitId) : State.reset.cars.lastHanded[u] = .parked := by
  simp [State.reset, Cars.reset]

/-- R4: every entry empty, every sequence memory absent. -/
theorem reset_intake (i : Fin 16) : State.reset.intake[i] = ⟨none, none⟩ := by
  simp [State.reset, intakeReset]

/-- Settles O2: while the pin is asserted no event of the part and no request takes place, and its release
gives every block the values of `State.reset`. -/
theorem coldResetPinStopsAndSetsThePart : Obligations.ColdResetPinStopsAndSetsThePart := by
  refine ⟨fun s => rfl, fun c s h hassert hrelease => ?_, fun straps s => ?_⟩
  · rcases event_or_command c with ⟨f, hf⟩ | ⟨name, rfl⟩
    · rw [exec_event hf, event_held hf hassert hrelease h]
    · rw [exec_command, served_none fun r rest hheads => absurd hheads (not_heads_of_held h r rest)]
  · refine ⟨releaseReset straps s, rfl, rfl, rfl, rfl, rfl, reset_intake, rfl,
      ⟨rfl, rfl, rfl, rfl, rfl, rfl, rfl⟩, Channel.forall_iff.2 ⟨rfl, rfl⟩, ⟨rfl, rfl, rfl, rfl⟩,
      ⟨rfl, rfl, rfl, rfl, fun n => ?_⟩, ⟨rfl, rfl, rfl, rfl, rfl⟩, reset_entry, reset_regime,
      Bank.forall_iff.2 ⟨rfl, rfl⟩, ⟨rfl, rfl⟩, fun c => ⟨reset_last c, reset_carProfile c⟩,
      reset_channel, fun u => ⟨reset_unitOf u, reset_lastHanded u⟩, rfl, ⟨rfl, rfl, rfl, rfl, rfl, rfl⟩,
      ⟨rfl, rfl⟩, rfl, rfl⟩
    exact congrArg CellRecord.quality (Line.reset_tapRead LineProfile.reset.lineLength n)

/-! ## The conditions after a cold reset -/

theorem reset_portsSound : PortsSound .reset :=
  (portsSound_iff .reset).2 (releaseReset_fits 0 .reset)

theorem reset_queueSound : QueueSound .reset := (queueSound_iff .reset).2 queueFit_invariant.reset

theorem reset_serialsSound : SerialsSound .reset :=
  (serialsKept_iff reset_queueSound rfl).2 serialsKept_invariant.reset

theorem reset_banksSound : BanksSound .reset := (banksSound_iff .reset).2 banksKept_invariant.reset

/-- R160: an IDLE record of no cell. -/
theorem reset_captureSound : CaptureSound .reset := ⟨by decide, by decide, by decide, nofun⟩

/-- Settles O60: each condition was shown of the reset where its step lemma needed it. -/
theorem resetMeetsEveryCondition : Obligations.ResetMeetsEveryCondition :=
  ⟨(lineSound_iff .reset).2 Line.reset_sound, reset_portsSound,
    releaseReset_intakeSound 0 .reset, releaseReset_profilesSound 0 .reset,
    (odometrySound_iff .reset).2 Odometry.reset_sound, (sensorSound_iff .reset).2 Sensor.reset_sound,
    reset_queueSound, reset_serialsSound, reset_banksSound, (carsSound_iff .reset).2 reset_carsFit,
    (handedSound_iff .reset).2 ⟨reset_unitsFit, .of_none rfl⟩, reset_captureSound⟩

end Sys2Proof.Machine
end

section
/-! The check on leaving SAFE (R151): each of its five items said once, when it passes and what its failure
reports, and the check as the first item that fails. -/

set_option Elab.async false

namespace Sys2Proof.Machine

section Check

variable {s : State}

/-! ## Searching the enabled positions -/

section Search

variable {test : Car → Bool} {fails : Car → Prop}

theorem enabledCars_find_none (htest : ∀ c, test c = true ↔ fails c) :
    s.enabledCars.find? test = none ↔ ∀ c, s.enabled c = true → ¬fails c := by
  simp only [List.find?_eq_none, mem_enabledCars, htest]

/-- The position found is the lowest that fails, since the enabled positions stand in rising order. -/
theorem enabledCars_find_some (htest : ∀ c, test c = true ↔ fails c) {c : Car}
    (h : s.enabledCars.find? test = some c) :
    s.enabled c = true ∧ fails c ∧ ∀ d, d < c → s.enabled d = true → ¬fails d := by
  obtain ⟨hc, below, above, hsplit, hbelow⟩ := List.find?_eq_some_iff_append.1 h
  have hrise : s.enabledCars.Pairwise (· < ·) := allCars_rise.filter _
  refine ⟨mem_enabledCars.1 (List.mem_of_find?_eq_some h), (htest c).1 hc, fun d hlt hd hfails => ?_⟩
  have hmem := mem_enabledCars.2 hd
  rw [hsplit] at hmem hrise
  obtain ⟨-, hafter, -⟩ := List.pairwise_append.1 hrise
  rcases List.mem_append.1 hmem with hmem | hmem
  · simpa [(htest d).2 hfails] using hbelow d hmem
  · rcases List.mem_cons.1 hmem with rfl | hmem
    · exact lt_irrefl _ hlt
    · exact lt_asymm hlt ((List.pairwise_cons.1 hafter).1 d hmem)

end Search

/-! ## The five items -/

theorem checkEnabled_none : checkEnabled s = none ↔ ∃ c, s.enabled c = true := by
  have hempty : s.enabledCars = [] ↔ ¬∃ c, s.enabled c = true := by
    simp only [List.eq_nil_iff_forall_not_mem, mem_enabledCars, not_exists]
  simp only [checkEnabled, hempty, ite_eq_right_iff, reduceCtorEq, imp_false, not_not]

theorem checkEnabled_some {x : CheckFailure} (h : checkEnabled s = some x) : x = ⟨1, none, 0⟩ := by
  unfold checkEnabled at h
  split at h <;> cases h
  rfl

/-- R151 item 2: a lower enabled position has the unit of this one. -/
def State.sharesUnit (s : State) (c : Car) : Prop :=
  ∃ d, d < c ∧ s.enabled d = true ∧ s.unitOf d = s.unitOf c

theorem sharesUnit_iff (c : Car) :
    s.enabledCars.any (fun d => decide (d < c) && s.unitOf d = s.unitOf c) = true ↔
      s.sharesUnit c := by
  simp only [List.any_eq_true, mem_enabledCars, Bool.and_eq_true, decide_eq_true_eq, State.sharesUnit,
    and_left_comm]

/-- No position shares its unit with a lower one exactly where no two positions share one. -/
theorem checkUnits_none : checkUnits s = none ↔
    ∀ c d, s.enabled c = true → s.enabled d = true → s.unitOf c = s.unitOf d → c = d := by
  rw [checkUnits, Option.map_eq_none_iff, enabledCars_find_none sharesUnit_iff]
  constructor
  · intro h c d hc hd hunit
    exact le_antisymm (not_lt.1 fun hlt => h c hc ⟨d, hlt, hd, hunit.symm⟩)
      (not_lt.1 fun hlt => h d hd ⟨c, hlt, hc, hunit⟩)
  · rintro h c hc ⟨d, hlt, hd, hunit⟩
    exact hlt.ne (h d c hd hc hunit)

/-- R151 item 3: tap offset and preview reach past the line. -/
def State.tapTooFar (s : State) (c : Car) : Prop :=
  s.profile.lineLength ≤ (s.carProfile c).tapOffset + (s.carProfile c).preview + 1

theorem tapTooFar_iff (c : Car) :
    (!decide ((s.carProfile c).tapOffset + (s.carProfile c).preview + 1 < s.profile.lineLength)) =
      true ↔ s.tapTooFar c := by
  simp [State.tapTooFar]

theorem checkTaps_none : checkTaps s = none ↔ ∀ c, s.enabled c = true →
    (s.carProfile c).tapOffset + (s.carProfile c).preview + 1 < s.profile.lineLength := by
  rw [checkTaps, Option.map_eq_none_iff, enabledCars_find_none tapTooFar_iff]
  simp only [State.tapTooFar, not_le]

/-- The intake table holds an entry of the role. -/
def State.HoldsRole (s : State) (role : Role) : Prop :=
  ∃ i : Fin 16, ∃ e ∈ s.intake[i].entry, e.role = role

theorem hasRole_iff (role : Role) : s.hasRole role = true ↔ s.HoldsRole role := by
  simp only [State.hasRole, State.HoldsRole, List.any_eq_true, Option.any_eq_true, decide_eq_true_eq,
    Vector.mem_toList_iff, Vector.mem_iff_getElem]
  constructor
  · rintro ⟨_, ⟨i, hi, rfl⟩, e, he, hrole⟩
    exact ⟨⟨i, hi⟩, e, he, hrole⟩
  · rintro ⟨i, e, he, hrole⟩
    exact ⟨_, ⟨i.val, i.isLt, rfl⟩, e, he, hrole⟩

theorem checkRoles_none : checkRoles s = none ↔
    ∀ role ∈ [Role.sensorP, .sensorQ, .odometry], s.HoldsRole role := by
  rw [checkRoles, Option.map_eq_none_iff, List.find?_eq_none]
  simp only [Bool.not_eq_true', Bool.not_eq_false, hasRole_iff]

/-- R151 item 4: the role reported is the first of the three that is missing. -/
theorem checkRoles_some {x : CheckFailure} (h : checkRoles s = some x) :
    ∃ role : Role, x = ⟨4, none, role.code⟩ ∧ ¬s.HoldsRole role ∧
      (role = .sensorP ∨ role = .sensorQ ∧ s.HoldsRole .sensorP ∨
        role = .odometry ∧ s.HoldsRole .sensorP ∧ s.HoldsRole .sensorQ) := by
  obtain ⟨role, hfind, rfl⟩ := Option.map_eq_some_iff.1 h
  refine ⟨role, rfl, ?_⟩
  simp only [← hasRole_iff]
  cases hp : s.hasRole .sensorP with
  | false =>
    obtain rfl : Role.sensorP = role := by simpa [hp] using hfind
    exact ⟨by simp [hp], .inl rfl⟩
  | true =>
    cases hq : s.hasRole .sensorQ with
    | false =>
      obtain rfl : Role.sensorQ = role := by simpa [hp, hq] using hfind
      exact ⟨by simp [hq], .inr (.inl ⟨rfl, rfl⟩)⟩
    | true =>
      obtain ⟨hodo, rfl⟩ : s.hasRole .odometry = false ∧ Role.odometry = role := by
        simpa [hp, hq] using hfind
      exact ⟨by simp [hodo], .inr (.inr ⟨rfl, rfl, rfl⟩)⟩

/-- R151 item 5: a position that is not FAILED has an old status, or none of READY. -/
def State.notReady (s : State) (c : Car) : Prop :=
  (s.channel c).state ≠ .failed ∧
    (s.profile.holdCount ≤ (s.channel c).age ∨ (s.channel c).lastState ≠ some .ready)

theorem notReady_iff (c : Car) :
    (decide ((s.channel c).state ≠ .failed) &&
      !(decide ((s.channel c).age < s.profile.holdCount) &&
        decide ((s.channel c).lastState = some .ready))) = true ↔ s.notReady c := by
  simp only [State.notReady, Bool.and_eq_true, Bool.not_eq_true', Bool.and_eq_false_iff,
    decide_eq_true_eq, decide_eq_false_iff_not, not_lt, ne_eq]

theorem checkUnitsReady_none : checkUnitsReady s = none ↔
    ∀ c, s.enabled c = true → (s.channel c).state ≠ .failed →
      (s.channel c).age < s.profile.holdCount ∧ (s.channel c).lastState = some .ready := by
  rw [checkUnitsReady, Option.map_eq_none_iff, enabledCars_find_none notReady_iff]
  simp only [State.notReady, not_and, not_or, not_le, ne_eq, not_not]

/-! ## The check -/

theorem leaveCheck_none : leaveCheck s = none ↔ checkEnabled s = none ∧ checkUnits s = none ∧
    checkTaps s = none ∧ checkRoles s = none ∧ checkUnitsReady s = none := by
  simp only [leaveCheck, Option.or_eq_none_iff]

/-- The item reported is the first that fails. -/
theorem leaveCheck_some {x : CheckFailure} (h : leaveCheck s = some x) :
    checkEnabled s = some x ∨ checkEnabled s = none ∧ (checkUnits s = some x ∨
      checkUnits s = none ∧ (checkTaps s = some x ∨ checkTaps s = none ∧ (checkRoles s = some x ∨
        checkRoles s = none ∧ checkUnitsReady s = some x))) := by
  simpa only [leaveCheck, Option.or_eq_some_iff] using h

end Check

/-- Settles O33: the five items in their order, each with its own search. -/
theorem leaveCheckPasses : Obligations.LeaveCheckPasses := by
  intro s cars units taps held roles ready lowest
  have hcars : checkEnabled s = none ↔ cars := checkEnabled_none
  have hunits : checkUnits s = none ↔ units := checkUnits_none
  have htaps : checkTaps s = none ↔ taps := checkTaps_none
  have hroles : checkRoles s = none ↔ roles := checkRoles_none
  have hready : checkUnitsReady s = none ↔ ready := checkUnitsReady_none
  refine ⟨?_, fun x hx => ?_⟩
  · rw [leaveCheck_none, hcars, hunits, htaps, hroles, hready]
  have hfails : ∀ {o : Option CheckFailure} {p : Prop}, (o = none ↔ p) → o = some x → ¬p :=
    fun hp ho h => by simp [hp.2 h] at ho
  rcases leaveCheck_some hx with h1 | ⟨c1, h2 | ⟨c2, h3 | ⟨c3, h4 | ⟨c4, h5⟩⟩⟩⟩
  · have hfail := hfails hcars h1
    obtain rfl := checkEnabled_some h1
    simp [hfail]
  · have hfail := hfails hunits h2
    obtain ⟨c, hfind, rfl⟩ := Option.map_eq_some_iff.1 h2
    simp only [hcars.1 c1, hfail]
    have hlowest := enabledCars_find_some sharesUnit_iff hfind
    simpa using ⟨c, rfl, rfl, hlowest⟩
  · have hfail := hfails htaps h3
    obtain ⟨c, hfind, rfl⟩ := Option.map_eq_some_iff.1 h3
    simp only [hcars.1 c1, hunits.1 c2, hfail]
    have hlowest := enabledCars_find_some tapTooFar_iff hfind
    simpa using ⟨c, rfl, rfl, hlowest⟩
  · have hfail := hfails hroles h4
    obtain ⟨role, rfl, hmissing⟩ := checkRoles_some h4
    simp only [hcars.1 c1, hunits.1 c2, htaps.1 c3, hfail]
    simpa using ⟨role, rfl, hmissing⟩
  · have hfail := hfails hready h5
    obtain ⟨c, hfind, rfl⟩ := Option.map_eq_some_iff.1 h5
    simp only [hcars.1 c1, hunits.1 c2, htaps.1 c3, hroles.1 c4, hfail]
    have hlowest := enabledCars_find_some notReady_iff hfind
    simpa using ⟨c, rfl, rfl, hlowest⟩

end Sys2Proof.Machine
end

section
/-! Set State (R148 to R156): what each change of the operating state makes of the cars and of the waiting
COMMAND frame, and the outcomes of the request. -/

set_option Elab.async false

namespace Sys2Proof.Machine

/-! ## The cars on a change -/

/-- A change of the operating state whose turns each replace the car's own channel record, by that record
and by what no turn changes, replaces the channel records alone. -/
theorem forCars_withChannels {f : Car → State → State} {g : Car → CarChannel → CarChannel} (s : State)
    (honly : ∀ c t, ChannelsOnly t (f c t))
    (hown : ∀ c t, ChannelsOnly s t → (f c t).channel c = g c (t.channel c))
    (hother : ∀ c d t, d ≠ c → (f c t).channel d = t.channel d) :
    forCars f s = s.withChannels fun c => g c (s.channel c) :=
  (forCars_only honly s).eq fun c =>
    forCars_channel (fun c _ ht => ht.trans (honly c _)) hown (fun c d t _ => hother c d t) s (.refl s) c

/-- R150: the record of a car after a change to SAFE. -/
def CarChannel.safed (x : CarChannel) : CarChannel :=
  if x.state = .following ∨ x.state = .centring ∨ x.state = .hold then
    { x with state := .parked, thetaPrev := 0, run := 0, parkHeld := false }
  else { x with parkHeld := false }

/-- R154: the record of a car after a change to STANDBY. -/
def CarChannel.centred (x : CarChannel) : CarChannel :=
  { x with state := if x.state = .following then .centring else x.state, parkHeld := false }

/-- R152, R153: the record of a car after a change to ACTIVE, its unit last handed an entry of `mode`. -/
def CarChannel.activated (mode : CmdMode) (x : CarChannel) : CarChannel :=
  if x.state = .centring then { x with state := .following, run := 0, parkHeld := false }
  else if x.state = .parked then
    if mode = .park then { x with state := .following, thetaPrev := 0, run := 0, parkHeld := false }
    else { x with parkHeld := true }
  else x

theorem parkForSafe_channel (c : Car) (s : State) :
    (parkForSafe c s).channel c = (s.channel c).safed := by
  unfold parkForSafe CarChannel.safed
  simp only [moving_iff]
  split <;> exact setChannel_same _ _ _

theorem activateCar_channel (c : Car) (s : State) : (activateCar c s).channel c =
    (s.channel c).activated s.cars.lastHanded[s.unitOf c].mode := by
  unfold activateCar CarChannel.activated
  dsimp only
  split
  · exact setChannel_same _ _ _
  · split
    · split <;> exact setChannel_same _ _ _
    · rfl

/-- R150: every car comes to rest, before a waiting frame is looked at. -/
theorem forCars_parkForSafe (s : State) : forCars parkForSafe (setOpState .safe s) =
    (setOpState .safe s).withChannels fun c => (s.channel c).safed :=
  forCars_withChannels (g := fun _ => CarChannel.safed) _ parkForSafe_only
    (fun c t _ => parkForSafe_channel c t) parkForSafe_other

theorem changeToSafe_none {s : State} (h : s.ports.waiting = none) : changeToSafe s =
    (setOpState .safe s).withChannels fun c => (s.channel c).safed := by
  have hwaiting : ((setOpState .safe s).withChannels fun c => (s.channel c).safed).ports.waiting =
      none := h
  rw [changeToSafe, forCars_parkForSafe, parkAllWaiting, hwaiting]

/-- R150: a frame that waits has every entry rewritten to PARK, and every unit was last handed PARK. -/
theorem changeToSafe_some {s : State} {w : CommandFrame} (h : s.ports.waiting = some w) :
    changeToSafe s =
      let u := (setOpState .safe s).withChannels fun c => (s.channel c).safed
      (u.setPorts
        { u.ports with waiting := some { w with entries := Vector.replicate 12 .parked } }).setCars
        { u.cars with lastHanded := Vector.replicate 12 .parked } := by
  have hwaiting : ((setOpState .safe s).withChannels fun c => (s.channel c).safed).ports.waiting =
      some w := h
  rw [changeToSafe, forCars_parkForSafe, parkAllWaiting, hwaiting]

theorem changeToStandby_eq (s : State) : changeToStandby s =
    (setOpState .standby s).withChannels fun c => (s.channel c).centred :=
  forCars_withChannels (f := standbyCar) (g := fun _ => CarChannel.centred) _
    (fun c t => setChannel_only c _ t) (fun c t _ => setChannel_same c _ t) standbyCar_other

theorem changeToActive_eq (s : State) : changeToActive s = (setOpState .active s).withChannels
    fun c => (s.channel c).activated s.cars.lastHanded[s.unitOf c].mode := by
  refine forCars_withChannels (f := activateCar)
    (g := fun c => CarChannel.activated s.cars.lastHanded[s.unitOf c].mode) _ activateCar_only
    (fun c t ht => ?_) activateCar_other
  have hunit : t.unitOf c = s.unitOf c := congrArg (fun m => m[c]) ht.order
  have hhanded : t.cars.lastHanded = s.cars.lastHanded := ht.lastHanded
  simp only [activateCar_channel, hunit, hhanded]

/-! ## The request -/

theorem setTarget_present (s : State) : setTarget s.executor.opState s = done s := by
  unfold setTarget
  cases s.executor.opState <;> rfl

theorem setTarget_safe {s : State} (h : s.executor.opState ≠ .safe) :
    setTarget .safe s = changed s.executor.opState (changeToSafe s) := by
  unfold setTarget
  cases hop : s.executor.opState with
  | safe => exact absurd hop h
  | standby => rfl
  | active => rfl

theorem setTarget_standby {s : State} (h : s.executor.opState = .active) :
    setTarget .standby s = changed s.executor.opState (changeToStandby s) := by
  simp only [setTarget, h]

/-- R151, R152: a change to ACTIVE is made from STANDBY, and from SAFE where the check passes. -/
theorem setTarget_active {s : State} (h : s.executor.opState = .standby ∨
    s.executor.opState = .safe ∧ leaveCheck s = none) :
    setTarget .active s = changed s.executor.opState (changeToActive s) := by
  rcases h with hop | ⟨hop, hcheck⟩
  · simp only [setTarget, hop]
  · simp only [setTarget, hop, hcheck]

theorem setTarget_leaves {s : State} (h : s.executor.opState = .safe) (hcheck : leaveCheck s = none) :
    setTarget .standby s = changed s.executor.opState (setOpState .standby s) := by
  simp only [setTarget, h, hcheck]

theorem setTarget_refused {s : State} {target : OpState} {x : CheckFailure}
    (h : s.executor.opState = .safe) (htarget : target ≠ .safe) (hcheck : leaveCheck s = some x) :
    setTarget target s = refuseLeaving target x s := by
  cases target with
  | safe => exact absurd rfl htarget
  | standby => simp only [setTarget, h, hcheck]
  | active => simp only [setTarget, h, hcheck]

/-- A target that is defined is served by `setTarget`. -/
theorem exec_setState {s : State} {r : Request} {rest : List Request} (h : Serves s .setState r rest)
    {target : OpState} (hcode : field r.payload 0 1 = target.code) {a : Reply} {u : State}
    (hact : setTarget target (s.taken rest) = (a, u)) :
    exec .setState s = .next (placeReply r a u) := by
  have hserved : actSetState r.payload (s.taken rest) = (a, u) := by
    rw [actSetState, hcode, readOpState_code]
    exact hact
  refine congrArg Host.Outcome.next ((serve_serves h).trans ?_)
  rw [hserved]

/-- Settles O32: each pair of present state and target has its own change, of the cars' records and, on
a change to SAFE, of a waiting frame. -/
theorem setStateOutcomes : Obligations.SetStateOutcomes := by
  intro s r rest h code asked answer parked follows centres entered keepsFrame
  have hchange : ∀ {target : OpState} {u : State}, code = target.code →
      setTarget target asked = changed s.executor.opState u → exec .setState s = .next (answer u) :=
    fun hcode hact => exec_setState h hcode hact
  refine ⟨fun hundefined => ?_, fun hpresent => ?_, fun hcode hout => ?_, fun hcode hactive => ?_,
    fun hcode hfrom => ?_, fun hcode hsafe hpass => ?_, fun hcode hsafe x hx target htarget => ?_⟩
  · refine congrArg Host.Outcome.next (serve_answers h ?_)
    rw [actSetState, readOpState_none hundefined]
    rfl
  · rw [exec_setState h hpresent (setTarget_present asked), placeReply_taken h.1]
  · refine ⟨_, hchange (target := .safe) hcode (setTarget_safe hout), ?_⟩
    cases hw : s.ports.waiting with
    | none =>
      rw [changeToSafe_none (s := asked) hw]
      exact ⟨rfl, fun c => withChannels_channel _ _ c, fun _ => ⟨rfl, rfl⟩, nofun⟩
    | some w =>
      rw [changeToSafe_some (s := asked) hw]
      refine ⟨rfl, fun c => withChannels_channel (setOpState .safe asked) _ c, nofun, ?_⟩
      rintro _ ⟨rfl⟩
      exact ⟨rfl, rfl⟩
  · refine ⟨_, hchange (target := .standby) hcode (setTarget_standby hactive), ?_⟩
    rw [changeToStandby_eq]
    exact ⟨rfl, fun c => withChannels_channel _ _ c, rfl, rfl⟩
  · refine ⟨_, hchange (target := .active) hcode (setTarget_active hfrom), ?_⟩
    rw [changeToActive_eq]
    exact ⟨rfl, fun c => withChannels_channel _ _ c, rfl, rfl⟩
  · exact hchange (target := .standby) hcode (setTarget_leaves hsafe hpass)
  · have hleaves : target ≠ .safe := by
      rintro rfl
      rcases hcode with hcode | hcode <;> rw [← htarget] at hcode <;> cases hcode
    rw [exec_setState h htarget.symm (setTarget_refused hsafe hleaves hx), htarget]

end Sys2Proof.Machine
end

section
/-! Set Line Profile (R157, R55, R65): the capture record after a line clear (R166), and the outcomes of the
request. -/

set_option Elab.async false

namespace Sys2Proof.Machine

/-! ## The capture record after a line clear -/

theorem captureClear_capture (s : State) :
    (captureClear s).capture = { s.capture with state := .idle } := by
  unfold captureClear
  split
  · rename_i hidle
    rw [← hidle]
  · exact offerCapture_frame _ _ _ .capture (by decide)

theorem answerClear_capture (t : Task) (s : State) : (answerClear t s).capture =
    if t = .capture then { s.capture with state := .idle } else s.capture := by
  cases t with
  | marker => exact markerClear_frame_own s .capture (by decide)
  | route => exact routeClear_frame s .capture (by decide)
  | capture => exact captureClear_capture s
  | report r => exact offerReport_frame r s .capture (by decide)

theorem runTasks_clear_capture (ts : List Task) (s : State) : (runTasks answerClear ts s).capture =
    if .capture ∈ ts then { s.capture with state := .idle } else s.capture := by
  induction ts generalizing s with
  | nil => rfl
  | cons t ts ih =>
    refine (ih (answerClear t s)).trans ?_
    rw [answerClear_capture]
    by_cases ht : t = .capture
    · simp [ht]
    · simp [ht, Ne.symm ht]

/-- R166: a line clear leaves the capture record IDLE, in whatever order the blocks answer it. -/
theorem lineClear_capture (own : Option Report) (s : State) :
    (lineClear own s).capture = { s.capture with state := .idle } := by
  obtain ⟨o, place, n, harranged⟩ := answerAll_arranged answerClear
    ((s.setLine s.line.cleared).clearDue own) own (s.setLine s.line.cleared)
  have hmem : Task.capture ∈ arrange o place own :=
    (arrange_perm o place own).mem_iff.2 (List.mem_append_left _ (by simp))
  rw [lineClear, harranged, runTasks_clear_capture, if_pos hmem]
  rfl

/-- R108: no section lies on the line. -/
theorem Route.cleared_off (r : Route) (bank : Bank) :
    (r.cleared.bank bank).state ≠ .inUse ∧ (r.cleared.bank bank).state ≠ .draining := by
  have hoff := (r.bank bank).cleared_state
  rw [← Route.cleared_bank] at hoff
  constructor <;> intro h <;> rw [h] at hoff <;> cases hoff

/-! ## The request -/

/-- The ranges of section 9.6. -/
theorem LineProfile.inRange_iff (l : LineProfile) : l.inRange = true ↔
    (l.lineLength = 1024 ∨ l.lineLength = 2048 ∨ l.lineLength = 4096) ∧
      (l.commandPeriod = 5 ∨ l.commandPeriod = 10 ∨ l.commandPeriod = 20) ∧ l.vOn ≤ 400 ∧
      l.hysteresis ≤ 40 ∧ l.threshold ≤ 16380 ∧ (1 ≤ l.heldLimit ∧ l.heldLimit ≤ 32) ∧
      (50 ≤ l.attentionTimeout ∧ l.attentionTimeout ≤ 2000) ∧
      (2 ≤ l.holdCount ∧ l.holdCount ≤ 15) ∧ (10 ≤ l.failCount ∧ l.failCount ≤ 100) ∧
      l.trackingLimit ≤ 1000 ∧ (1 ≤ l.trackingCount ∧ l.trackingCount ≤ 50) ∧
      l.captureLength % 16 = 0 ∧ 16 ≤ l.captureLength ∧ l.captureLength + 16 ≤ l.lineLength := by
  simp only [LineProfile.inRange, captureLengthFits, Bool.and_eq_true, Bool.or_eq_true,
    decide_eq_true_eq, and_assoc, or_assoc]

theorem actSetLineProfile_writes {p : List Byte} {s : State} (hsafe : s.executor.opState = .safe)
    (hrange : (readLineProfile p).inRange = true) :
    actSetLineProfile p s = done (writeProfile (readLineProfile p) s) := by
  simp only [actSetLineProfile, hsafe, hrange, ne_eq, not_true, if_false, Bool.not_true,
    Bool.false_eq_true]

/-- Settles O35: the two refusals in their order, and the written profile, with a line clear where the
line length changes. -/
theorem setLineProfileOutcomes : Obligations.SetLineProfileOutcomes := by
  intro s r rest h p fits written
  have hfits : (readLineProfile p).inRange = true ↔ fits := (readLineProfile p).inRange_iff
  have hwritten : readLineProfile p = written := rfl
  refine ⟨fun hout => congrArg Host.Outcome.next (serve_answers h (if_pos hout)),
    fun hsafe hrange => congrArg Host.Outcome.next (serve_answers h ?_), fun hsafe hrange => ?_⟩
  · rw [← hfits, Bool.not_eq_true] at hrange
    refine (if_neg (not_not.2 hsafe)).trans (if_pos ?_)
    rw [hrange]
    rfl
  have hact : actSetLineProfile p (s.taken rest) = done (writeProfile written (s.taken rest)) :=
    actSetLineProfile_writes hsafe (hfits.2 hrange)
  refine ⟨fun hsame => ?_, fun hlength => ?_⟩
  · have hkeeps : writeProfile written (s.taken rest) = (s.taken rest).setProfile written :=
      if_pos hsame
    rw [hkeeps] at hact
    exact congrArg Host.Outcome.next (serve_changes h hact rfl rfl)
  · have hclears : writeProfile written (s.taken rest) =
        lineClear none ((s.taken rest).setProfile written) := if_neg hlength
    rw [hclears] at hact
    generalize hasked : (s.taken rest).setProfile written = u at hact
    have hrun : exec .setLineProfile s = .next (placeReply r (.bare .ok) (lineClear none u)) :=
      congrArg Host.Outcome.next
        ((serve_serves h).trans (congrArg (fun x => placeReply r x.1 x.2) hact))
    have hreply := placeReply_frame r (.bare .ok) (lineClear none u)
    have hframe : SameBut lineFields u (placeReply r (.bare .ok) (lineClear none u)) :=
      (lineClear_frame none u).trans (hreply.mono (by decide))
    obtain ⟨hmarker, hroute, -⟩ := lineClear_blocks none u
    have tmarker := (hreply .marker (by decide)).trans hmarker
    have troute := (hreply .route (by decide)).trans hroute
    subst hasked
    refine ⟨_, hrun, rfl, hframe .profile (by decide),
      (hreply .line (by decide)).trans (lineClear_line none _),
      congrArg MarkerUnit.queue tmarker, congrArg MarkerUnit.attention tmarker,
      (hreply .capture (by decide)).trans (lineClear_capture none _), fun bank => ?_,
      hframe .intake (by decide), hframe .odo (by decide), hframe .sensor (by decide),
      hframe .demand (by decide), hframe .cars (by decide)⟩
    rw [troute]
    exact Route.cleared_off _ bank

end Sys2Proof.Machine
end

section
/-! Warm Restart (R156, R158): the frames that stand behind its reply, and what becomes of every block. -/

set_option Elab.async false

namespace Sys2Proof.Machine

/-! ## Reports that find a place -/

/-- While the fore transmitter is busy, no reservation is held and `n` places are free, `t` has offered at
most `n` frames behind those of `s` and dropped none (R12, R175). -/
def Queued (n : Nat) (s t : State) : Prop :=
  s.ports.foreTx.isSome = true → s.ports.reservation = false → s.ports.foreQueue.length + n ≤ 16 →
    t.counters = s.counters ∧ ∃ (behind : List Frame) (seq : Byte), behind.length ≤ n ∧
      t.ports = { s.ports with foreQueue := s.ports.foreQueue ++ behind, foreSeq := seq }

theorem Queued.of_frame {fs : List Field} {s t : State} (h : SameBut fs s t)
    (hf : Field.ports ∉ fs ∧ Field.counters ∉ fs := by decide) : Queued 0 s t := fun _ _ _ =>
  ⟨h .counters hf.2, [], s.ports.foreSeq, Nat.le_refl _,
    (h .ports hf.1).trans (by rw [List.append_nil])⟩

theorem Queued.trans {m n : Nat} {s t u : State} (h : Queued m s t) (k : Queued n t u) :
    Queued (m + n) s u := by
  intro hbusy hfree hplaces
  obtain ⟨hcounters, first, seq, hfirst, hports⟩ := h hbusy hfree (by omega)
  have hqueue : t.ports.foreQueue.length = s.ports.foreQueue.length + first.length := by
    rw [hports, List.length_append]
  obtain ⟨kcounters, second, seq', hsecond, kports⟩ :=
    k (by rw [hports]; exact hbusy) (by rw [hports]; exact hfree) (by omega)
  refine ⟨kcounters.trans hcounters, first ++ second, seq', ?_, ?_⟩
  · rw [List.length_append]
    omega
  · rw [kports, hports, List.append_assoc]

theorem Queued.mono {m n : Nat} {s t : State} (h : Queued m s t) (hle : m ≤ n) : Queued n s t := by
  intro hbusy hfree hplaces
  obtain ⟨hcounters, behind, seq, hlength, hports⟩ := h hbusy hfree (by omega)
  exact ⟨hcounters, behind, seq, hlength.trans hle, hports⟩

/-- R12: behind a busy transmitter an admitted frame joins the tail. -/
theorem Ports.foreAdmit_busy {p : Ports} (h : p.foreTx.isSome = true) (f : Frame) :
    p.foreAdmit f = { p with foreQueue := p.foreQueue ++ [f] } := by
  obtain ⟨x, hx⟩ := Option.isSome_iff_exists.1 h
  simp only [Ports.foreAdmit, Ports.foreKick, hx]

theorem offerReport_queued (r : Report) (s : State) : Queued 1 s (offerReport r s) := by
  intro hbusy hfree hplaces
  rcases offerReport_cases r s with ⟨-, he⟩ | ⟨hfull, -⟩
  · refine ⟨by rw [he]; rfl, [reportFrame r s], s.ports.foreSeq + 1, Nat.le_refl _, ?_⟩
    rw [he, Ports.foreAdmit_busy hbusy]
    rfl
  · rw [Ports.foreFree_eq, hfree] at hfull
    simp only [Bool.false_eq_true, if_false] at hfull
    omega

/-! ## The reports of a line clear -/

theorem freeCleared_queued (bank : Bank) (s : State) : Queued 1 s (freeCleared bank s) := by
  unfold freeCleared
  split
  · exact (Queued.of_frame (setBankState_frame bank .free s)).trans (offerReport_queued _ _)
  · exact (Queued.of_frame (.refl [] s)).mono (by decide)

theorem captureClear_queued (s : State) : Queued 1 s (captureClear s) := by
  unfold captureClear
  split
  · exact (Queued.of_frame (.refl [] s)).mono (by decide)
  · exact (Queued.of_frame (setCapture_frame s _)).trans (offerReport_queued _ _)

theorem markerClear_queued (s : State) : Queued 1 s (markerClear s) := by
  have hemptied : Queued 0 s (s.setMarker s.marker.emptied) := .of_frame (setMarker_frame s _)
  rw [markerClear_eq]
  dsimp only
  cases s.marker.attention with
  | none => exact hemptied.mono (by decide)
  | some hold => exact hemptied.trans (offerReport_queued _ _)

/-- The most reports that an answer to a line clear offers. -/
def Task.reports : Task → Nat
  | .marker => 1
  | .route => 2
  | .capture => 1
  | .report _ => 1

theorem answerClear_queued (t : Task) (s : State) : Queued t.reports s (answerClear t s) := by
  cases t with
  | marker => exact markerClear_queued s
  | route => exact (freeCleared_queued .a s).trans (freeCleared_queued .b _)
  | capture => exact captureClear_queued s
  | report r => exact offerReport_queued r s

theorem runTasks_queued (ts : List Task) (s : State) :
    Queued (ts.map Task.reports).sum s (runTasks answerClear ts s) := by
  induction ts generalizing s with
  | nil => exact .of_frame (.refl [] s)
  | cons t ts ih => exact (answerClear_queued t s).trans (ih _)

/-- R89, R108, R166, R175: a line clear offers at most five reports. -/
theorem lineClear_queued (own : Option Report) (s : State) : Queued 5 s (lineClear own s) := by
  obtain ⟨o, place, n, harranged⟩ := answerAll_arranged answerClear
    ((s.setLine s.line.cleared).clearDue own) own (s.setLine s.line.cleared)
  have hsum : ((arrange o place own).map Task.reports).sum ≤ 5 := by
    rw [((arrange_perm o place own).map Task.reports).sum_eq]
    cases own <;> simp [Task.reports]
  have hbefore : Queued 0 s ((s.setLine s.line.cleared).setBook { s.book with choices := n }) :=
    .of_frame (((setLine_frame s _).mono (by decide : _ ⊆ [Field.line, .book])).trans
      ((setBook_frame _ _).mono (by decide)))
  rw [lineClear, harranged]
  exact (hbefore.trans (runTasks_queued _ _)).mono (by omega)

/-! ## The state before the line clear -/

/-- R147: the record of a car after a warm restart. -/
def CarChannel.restarted (x : CarChannel) : CarChannel :=
  { x with
    thetaPrev := 0, run := 0, parkHeld := false,
    state := if x.state = .off ∨ x.state = .failed then x.state else .parked }

theorem restartCar_channel (c : Car) (s : State) :
    (restartCar c s).channel c = (s.channel c).restarted := by
  unfold restartCar CarChannel.restarted
  rw [setChannel_same]
  cases (s.channel c).state <;> rfl

theorem forCars_restartCar (s : State) :
    forCars restartCar s = s.withChannels fun c => (s.channel c).restarted :=
  forCars_withChannels (f := restartCar) (g := fun _ => CarChannel.restarted) _
    (fun c t => setChannel_only c _ t) (fun c t _ => restartCar_channel c t) restartCar_other

/-- R16, R158: the ports with the queues emptied and the reply placed in them alone. -/
def State.restartedPorts (s : State) (reply : Frame) : Ports :=
  { s.ports with
    foreTx := if s.ports.foreTx = none then some reply else s.ports.foreTx,
    foreQueue := if s.ports.foreTx = none then [] else [reply],
    foreSeq := s.ports.foreSeq + 1, aftQueue := [], waiting := none, reservation := false }

theorem restartQueues_taken (r : Request) (rest : List Request) (s : State) :
    restartQueues r (s.taken rest) =
      (s.taken rest).setPorts (s.restartedPorts (replyFrame r (.bare .ok) s)) := by
  have hreply : replyFrame r (.bare .ok) (s.taken rest) = replyFrame r (.bare .ok) s := rfl
  unfold restartQueues State.restartedPorts
  rw [hreply]
  cases hbusy : s.ports.foreTx <;> simp [State.taken, Ports.foreKick, hbusy]

/-- R34, R129: the demand engine after a warm restart, a speed of 0 having been taken. -/
def State.restartedDemand (s : State) : Demand :=
  { s.demand with
    last := Vector.replicate 12 none,
    gateOpen := if s.profile.vOn = 0 then true
      else if s.profile.hysteresis < s.profile.vOn then false else s.demand.gateOpen }

/-- R158: what a warm restart has made of the part when it clears the line. -/
def State.restarted (s : State) (reply : Frame) (rest : List Request) : State :=
  (((((s.setExecutor { opState := .safe, queue := rest }).setPorts (s.restartedPorts reply)).setOdo
    .reset).setSensor .reset).setDemand s.restartedDemand).setCars
    { s.cars with channels := tabulate fun c => (s.channel c).restarted }

/-- R156: the STATE report of a restart taken outside SAFE. -/
def restartReport (before : OpState) (channels : List ChanState) : Option Report :=
  if before = .safe then none else some (.state before .safe .warmRestart channels)

/-- R158: the reply placed, the blocks restarted, and the line cleared. -/
theorem restartBlocks_taken (r : Request) (rest : List Request) (s : State) :
    restartBlocks (restartQueues r (s.taken rest)) =
      let u := s.restarted (replyFrame r (.bare .ok) s) rest
      restartMarker (lineClear (restartReport s.executor.opState u.channelStates) u) := by
  have hdemand : restartDemand (restartSensor (restartOdometry (forCars restartCar
      (setOpState .safe (restartQueues r (s.taken rest)))))) =
      s.restarted (replyFrame r (.bare .ok) s) rest := by
    rw [restartQueues_taken, forCars_restartCar, State.restarted, State.restartedDemand,
      ← gateNext_zero]
    rfl
  have hbefore : (restartQueues r (s.taken rest)).executor.opState = s.executor.opState := rfl
  unfold restartBlocks
  rw [hdemand, hbefore]
  rfl

theorem exec_warmRestart {s : State} {r : Request} {rest : List Request}
    (h : Serves s .warmRestart r rest) :
    exec .warmRestart s = .next (restartBlocks (restartQueues r (s.taken rest))) := by
  obtain ⟨hheads, hname, haccepted, hlength⟩ := h
  refine congrArg Host.Outcome.next ?_
  simp only [serveWarmRestart, takeRequest_heads hheads hname, haccepted, hlength, Bool.not_true,
    Bool.false_eq_true, if_false]

/-- R12, R158: the emptied ports have room for every report of the line clear: none is dropped, and they
stand behind the reply. -/
theorem lineClear_restarted (own : Option Report) (s : State) (reply : Frame) (rest : List Request) :
    (lineClear own (s.restarted reply rest)).counters = s.counters ∧
      ∃ (behind : List Frame) (seq : Byte),
        (lineClear own (s.restarted reply rest)).ports = { s.restartedPorts reply with
          foreQueue := (s.restartedPorts reply).foreQueue ++ behind, foreSeq := seq } := by
  have hroom : (s.restartedPorts reply).foreTx.isSome = true ∧
      (s.restartedPorts reply).foreQueue.length + 5 ≤ 16 := by
    unfold State.restartedPorts
    cases s.ports.foreTx <;> simp
  obtain ⟨hcounters, behind, seq, -, hports⟩ :=
    lineClear_queued own (s.restarted reply rest) hroom.1 rfl hroom.2
  exact ⟨hcounters, behind, seq, hports⟩

/-! ## The settled obligation -/

/-- Settles O34: the restart comes to one line clear of the part with its ports emptied but for the reply;
the reports of that clear queue behind the reply, with room for all of them. -/
theorem warmRestartRestarts : Obligations.WarmRestartRestarts := by
  intro s r rest h reply
  generalize hown : restartReport s.executor.opState (s.restarted reply rest).channelStates = own
  have hrun : exec .warmRestart s = .next (restartMarker (lineClear own (s.restarted reply rest))) := by
    rw [exec_warmRestart h, restartBlocks_taken, ← hown]
  obtain ⟨hmarker, hroute, -⟩ := lineClear_blocks own (s.restarted reply rest)
  obtain ⟨hcounters, behind, seq, hports⟩ := lineClear_restarted own s reply rest
  generalize ht : restartMarker (lineClear own (s.restarted reply rest)) = t at hrun
  have hframe : SameBut lineFields (s.restarted reply rest) t := by
    rw [← ht]
    exact (lineClear_frame own _).trans ((setMarker_frame _ _).mono (by decide))
  have hexecutor : t.executor = { opState := .safe, queue := rest } := hframe .executor (by decide)
  have hodo : t.odo = .reset := hframe .odo (by decide)
  have hsensor : t.sensor = .reset := hframe .sensor (by decide)
  have hdemand : t.demand = s.restartedDemand := hframe .demand (by decide)
  have hcars : t.cars = (s.restarted reply rest).cars := hframe .cars (by decide)
  have tports : t.ports = { s.restartedPorts reply with
      foreQueue := (s.restartedPorts reply).foreQueue ++ behind, foreSeq := seq } := by
    rw [← ht]
    exact hports
  have tmarker : t.marker =
      { s.marker.emptied with loss := false, cars := Vector.replicate 12 .reset } := by
    rw [← ht, restartMarker, hmarker]
    rfl
  have troute : t.route = s.route.cleared := by
    rw [← ht]
    exact hroute
  refine ⟨t, hrun, hexecutor, ?_, congrArg Ports.aftQueue tports, congrArg Ports.waiting tports,
    congrArg Ports.reservation tports, (congrArg Ports.aftTx tports).trans rfl,
    (congrArg Ports.aftSeq tports).trans rfl, ?_,
    hsensor, ?_, ⟨?_, fun c => ?_⟩, fun bank => ?_, ?_, hdemand, ⟨?_, fun c => ?_⟩,
    hframe .pins (by decide), hframe .nodeAddress (by decide), ?_, hframe .intake (by decide),
    hframe .profile (by decide), hframe .pending (by decide), ?_⟩
  · rw [tports]
    split
    · rename_i hidle
      exact if_pos hidle
    · rename_i hbusy
      refine ⟨if_neg hbusy, ?_⟩
      simp [State.restartedPorts, hbusy]
  · rw [hodo]
    exact ⟨rfl, rfl, rfl, rfl, rfl, rfl, rfl⟩
  · rw [← ht]
    exact lineClear_line own _
  · rw [tmarker]
    rfl
  · rw [State.regime, tmarker]
    simp [CarRegime.reset]
  · rw [troute, Route.cleared_bank, BankRecord.cleared]
    simp only [BankState.inSection_iff]
  · rw [← ht]
    exact lineClear_capture own _
  · rw [hcars]
    rfl
  · exact (channel_of_cars hcars c).trans (tabulate_get _ c)
  · rw [← ht]
    exact hcounters
  · intro emptied restarted cleared
    have hrestarted : restarted = s.restarted reply rest := by
      simp only [restarted, hexecutor, hodo, hsensor, hdemand, hcars]
      rfl
    have hstates : allCars.map (fun c => (t.channel c).state) =
        (s.restarted reply rest).channelStates := by
      simp only [State.channelStates, channel_of_cars hcars]
    have hcleared : cleared = lineClear own (s.restarted reply rest) := by
      simp only [cleared, hrestarted, hstates, ← hown]
      rfl
    rw [hcleared, ← ht]
    rfl

end Sys2Proof.Machine
end

section
/-! The capture requests (R161, R163 to R165, R168): the refusals of Capture Start and the capture that it
begins, the cells that Capture Read delivers, and Capture Release. -/

set_option Elab.async false

namespace Sys2Proof.Machine

/-! ## Capture Start -/

/-- The capture that a request begins (R161). -/
def Capture.requested (mode : CapMode) (start stop : Int) : Capture :=
  { state := .ready, mode := mode, source := .request, car := none, serial := none,
    start := start, stop := stop, cursor := start }

/-- R161, R168: a requested capture begins with its TRIGGERED report, and is answered with its start cell
and its end cell. -/
theorem captureStarted_requested (mode : CapMode) (start stop : Int) (s : State) :
    captureStarted (beginCapture mode .request none none start stop s) =
      (⟨.ok, beInt 6 start ++ beInt 6 stop⟩,
        offerReport (.capture .triggered .request none none (some (.requested mode start stop)) none
          s.line.newest s.counters.capturesMissed) (s.setCapture (.requested mode start stop))) := by
  have hcapture : (beginCapture mode .request none none start stop s).capture =
      .requested mode start stop := offerCapture_frame _ _ _ .capture (by decide)
  rw [captureStarted, hcapture]
  rfl

theorem captureLengthFits_iff (n len : Nat) :
    captureLengthFits n len = true ↔ n % 16 = 0 ∧ 16 ≤ n ∧ n + 16 ≤ len := by
  simp only [captureLengthFits, Bool.and_eq_true, decide_eq_true_eq, and_assoc]

theorem State.startFits_iff (s : State) (x : Int) : s.startFits x = true ↔
    (s.line.clearMark : Int) ≤ x ∧
      (s.line.inputCell : Int) - 1 - s.profile.lineLength + 16 < x ∧
      x ≤ (s.line.inputCell : Int) - 1 := by
  simp only [State.startFits, Bool.and_eq_true, decide_eq_true_eq, and_assoc]
  rfl

theorem CapState.accepts_false_iff (x : CapState) :
    x.accepts = false ↔ x = .ready ∨ x = .overtaken := by
  cases x <;> decide

theorem readCapMode_some {n : Nat} (h : n ≤ 1) : ∃ mode, readCapMode n = some mode := by
  have hn : n = 0 ∨ n = 1 := by omega
  rcases hn with rfl | rfl
  · exact ⟨.relative, rfl⟩
  · exact ⟨.absolute, rfl⟩

section Start

variable {p : List Byte} {s : State} {mode : CapMode}

theorem actCaptureStart_format (h : readCapMode (field p 0 1) = none) :
    actCaptureStart p s = refuse .format s := by
  simp only [actCaptureStart, h]

theorem actCaptureStart_busy (h : readCapMode (field p 0 1) = some mode)
    (hbusy : s.capture.state.accepts = false) : actCaptureStart p s = refuse .busy s := by
  simp only [actCaptureStart, h, hbusy, Bool.not_false, if_true]

theorem actCaptureStart_length (h : readCapMode (field p 0 1) = some mode)
    (hidle : s.capture.state.accepts = true)
    (hlength : captureLengthFits (field p 1 2) s.profile.lineLength = false) :
    actCaptureStart p s = refuse .range s := by
  simp only [actCaptureStart, h, hidle, hlength, Bool.not_true, Bool.not_false, Bool.false_eq_true,
    if_true, if_false]

variable (hidle : s.capture.state.accepts = true)
  (hlength : captureLengthFits (field p 1 2) s.profile.lineLength = true)

include hidle hlength

theorem actCaptureStart_relative (h : readCapMode (field p 0 1) = some .relative) :
    actCaptureStart p s = captureStarted (beginRelative .request none none (field p 1 2) s) := by
  simp only [actCaptureStart, h, hidle, hlength, Bool.not_true, Bool.false_eq_true, if_false]

theorem actCaptureStart_outside (h : readCapMode (field p 0 1) = some .absolute)
    (hstart : s.startFits (fieldS p 3 6) = false) : actCaptureStart p s = refuse .range s := by
  simp only [actCaptureStart, h, hidle, hlength, hstart, Bool.not_true, Bool.not_false,
    Bool.false_eq_true, if_true, if_false]

theorem actCaptureStart_absolute (h : readCapMode (field p 0 1) = some .absolute)
    (hstart : s.startFits (fieldS p 3 6) = true) :
    actCaptureStart p s = captureStarted (beginCapture .absolute .request none none (fieldS p 3 6)
      (min (fieldS p 3 6 + field p 1 2) s.line.inputCell) s) := by
  simp only [actCaptureStart, h, hidle, hlength, hstart, Bool.not_true, Bool.false_eq_true,
    if_false]

end Start

/-- Settles O46: each refusal by its own test, and in both modes the requested capture with its report
before the reply. -/
theorem captureStartOutcomes : Obligations.CaptureStartOutcomes := by
  intro s r rest h p n x input busy fits inside refused begins
  have hbusy : s.capture.state.accepts = false ↔ busy := CapState.accepts_false_iff _
  have hidle : ¬busy → s.capture.state.accepts = true := fun hfree => by
    rwa [← hbusy, Bool.not_eq_false] at hfree
  have hfits : captureLengthFits n s.profile.lineLength = true ↔ fits := captureLengthFits_iff _ _
  have hinside : s.startFits x = true ↔ inside := s.startFits_iff x
  have hrefused : ∀ {c}, actCaptureStart p (s.taken rest) = refuse c (s.taken rest) → refused c :=
    fun hact => congrArg Host.Outcome.next (serve_answers h hact)
  have hbegins : ∀ {mode start stop}, actCaptureStart p (s.taken rest) =
      captureStarted (beginCapture mode .request none none start stop (s.taken rest)) →
      begins mode start stop := fun hact => by
    rw [captureStarted_requested] at hact
    refine congrArg Host.Outcome.next ((serve_serves h).trans ?_)
    rw [hact]
    rfl
  refine ⟨fun hmode => hrefused (actCaptureStart_format (readCapMode_none hmode)),
    fun hmode hnow => ?_, fun hmode hfree hlength => ?_, fun hmode hfree hlength => ?_,
    fun hmode hfree hlength hstart => ?_, fun hmode hfree hlength hstart => ?_⟩
  · obtain ⟨mode, hread⟩ := readCapMode_some hmode
    exact hrefused (actCaptureStart_busy hread (hbusy.2 hnow))
  · obtain ⟨mode, hread⟩ := readCapMode_some hmode
    rw [← hfits, Bool.not_eq_true] at hlength
    exact hrefused (actCaptureStart_length hread (hidle hfree) hlength)
  · exact hbegins (actCaptureStart_relative (hidle hfree) (hfits.2 hlength)
      (congrArg readCapMode hmode))
  · rw [← hinside, Bool.not_eq_true] at hstart
    exact hrefused (actCaptureStart_outside (hidle hfree) (hfits.2 hlength)
      (congrArg readCapMode hmode) hstart)
  · exact hbegins (actCaptureStart_absolute (hidle hfree) (hfits.2 hlength)
      (congrArg readCapMode hmode) (hinside.2 hstart))

/-! ## Capture Read -/

/-- R163: the cells of a read, from the read cursor upward. -/
theorem readCells_eq (s : State) (n : Nat) (cell : Int) :
    readCells s n cell = (List.range n).map (fun i : Nat => s.tapRead (cell + i)) := by
  induction n generalizing cell with
  | zero => rfl
  | succ n ih =>
    rw [readCells, ih, List.range_succ_eq_map, List.map_cons, List.map_map]
    refine congrArg₂ List.cons (by simp) (List.map_congr_left fun i _ => ?_)
    rw [Function.comp_apply, Nat.cast_succ, add_assoc, add_comm (1 : Int)]

/-- With `i` read as an integer, Lean lifts the range to a list of integers before it maps; that list
carries the same offsets. -/
theorem map_range_cast {α : Type} (f : Int → α) (n : Nat) :
    (List.range n).map (fun i => f (i : Int)) = (List.range n).map (fun i : Nat => f i) := by
  rw [List.map_eq_flatMap (f := fun i : Nat => f i)]
  exact List.map_flatMap

theorem State.overtakenNow_iff (s : State) : s.overtakenNow = true ↔
    s.capture.state = .ready ∧
      s.capture.cursor < s.line.newest - (s.profile.lineLength : Int) + 1 := by
  simp only [State.overtakenNow, Bool.and_eq_true, decide_eq_true_eq]

section Read

variable (p : List Byte) {s : State}

theorem actCaptureRead_idle (h : s.capture.state = .idle) :
    actCaptureRead p s = refuse .nothingPending s := by
  simp only [actCaptureRead, h]

/-- R163: a read of a capture that is DONE delivers no cell. -/
theorem actCaptureRead_done (h : s.capture.state = .done) : actCaptureRead p s =
    (⟨.ok, be 1 2 ++ beInt 6 s.capture.cursor ++ beInt 6 s.capture.stop ++ be 1 0⟩, s) := by
  simp only [actCaptureRead, captureReply, h]
  rfl

theorem actCaptureRead_refused (h : s.capture.state = .overtaken) :
    actCaptureRead p s = refuse .overtaken s := by
  simp only [actCaptureRead, h]

/-- R164: a read in READY past which the line has run. -/
theorem actCaptureRead_overtaken (hready : s.capture.state = .ready)
    (hpast : s.capture.cursor < s.line.newest - (s.profile.lineLength : Int) + 1) :
    actCaptureRead p s = refuse .overtaken
      (offerCapture .overtaken none (s.setCapture { s.capture with state := .overtaken })) := by
  have hnow : s.overtakenNow = true := s.overtakenNow_iff.2 ⟨hready, hpast⟩
  simp only [actCaptureRead, hready, hnow, overtakingTest, if_true]

/-- R163: a read in READY whose cells all stand in the line. -/
theorem actCaptureRead_delivers (hready : s.capture.state = .ready)
    (hkept : s.line.newest - (s.profile.lineLength : Int) + 1 ≤ s.capture.cursor) :
    actCaptureRead p s = deliverCells s := by
  have hnow : s.overtakenNow = false := by
    rw [← Bool.not_eq_true, s.overtakenNow_iff]
    exact fun ⟨_, hpast⟩ => absurd hpast (not_lt.2 hkept)
  simp only [actCaptureRead, hready, hnow, Bool.false_eq_true, if_false]

end Read

/-- The capture record after a read that delivers (R163). -/
def Capture.delivered (c : Capture) : Capture :=
  { c with
    cursor := c.cursor + toDeliver c,
    state := if c.stop ≤ c.cursor + toDeliver c then .done else .ready }

theorem deliverCells_eq (s : State) : deliverCells s =
    (⟨.ok, be 1 s.capture.delivered.state.code ++ beInt 6 s.capture.delivered.cursor ++
        beInt 6 s.capture.stop ++ be 1 (toDeliver s.capture) ++
        ((List.range (toDeliver s.capture)).map
          (fun i : Nat => s.tapRead (s.capture.cursor + i))).flatMap CellRecord.bytes⟩,
      s.setCapture s.capture.delivered) := by
  simp only [deliverCells, captureReply, readCells_eq, List.length_map, List.length_range]
  rfl

/-- Settles O47: a read delivers in READY alone, unless the line has run past its cursor; the cells above
a cursor that is not overtaken stand in the line, each in its own slot. -/
theorem captureReadOutcomes : Obligations.CaptureReadOutcomes := by
  intro s r rest h c newest n
  have hanswers : ∀ {a}, actCaptureRead r.payload (s.taken rest) = (a, s.taken rest) →
      exec .captureRead s = .next (s.answered r rest a) :=
    fun hact => congrArg Host.Outcome.next (serve_answers h hact)
  refine ⟨fun hidle => hanswers (actCaptureRead_idle _ hidle),
    fun hdone => hanswers (actCaptureRead_done _ hdone),
    fun hover => hanswers (actCaptureRead_refused _ hover),
    fun hready hpast => ?_, fun hready hkept => ⟨fun i _ => by omega, ?_⟩⟩
  · refine congrArg Host.Outcome.next ((serve_serves h).trans ?_)
    rw [actCaptureRead_overtaken (s := s.taken rest) r.payload hready hpast]
    rfl
  · intro after
    have hact := (actCaptureRead_delivers (s := s.taken rest) r.payload hready hkept).trans
      (deliverCells_eq _)
    rw [map_range_cast]
    exact congrArg Host.Outcome.next (serve_changes h hact rfl rfl)

/-! ## Capture Release -/

/-- Settles O48: one change of the record, and the reply. -/
theorem captureReleaseEndsCapture : Obligations.CaptureReleaseEndsCapture := by
  intro s r rest h
  have hact : actCaptureRelease r.payload (s.taken rest) =
      (.bare .ok, (s.taken rest).setCapture { s.capture with state := .idle }) := rfl
  exact congrArg Host.Outcome.next (serve_changes h hact rfl rfl)

end Sys2Proof.Machine
end

section
/-! The capture record after every step (R160 to R166): a capture begins on closed cells, a read moves its
cursor towards its end cell, and the line below it never gets shorter between two resets. -/

set_option Elab.async false

namespace Sys2Proof.Machine

/-! ## The capture record sound -/

/-- R160 to R163: the cursor within the stretch, short of its end while READY, and the stretch below the
open cell `input`. -/
structure Capture.Sound (input : Nat) (c : Capture) : Prop where
  begun : c.start ≤ c.cursor
  within : c.cursor ≤ c.stop
  closed : c.stop ≤ input
  ready : c.state = .ready → c.cursor < c.stop

/-- R157: a capture length in its range is at least 16. -/
theorem LineProfile.captureLength_least {l : LineProfile} (h : l.inRange = true) :
    16 ≤ l.captureLength := by
  simp only [LineProfile.inRange, Bool.and_eq_true] at h
  obtain ⟨-, hfits⟩ := h
  obtain ⟨-, hleast, -⟩ := (captureLengthFits_iff _ _).1 hfits
  exact hleast

/-- What every step keeps of the capture record; the profile's range bounds the stretch that a regime
trigger captures. -/
structure CaptureKept (s : State) : Prop where
  range : s.profile.inRange = true
  capture : s.capture.Sound s.line.inputCell

theorem captureSound_iff (s : State) : CaptureSound s ↔ s.capture.Sound s.line.inputCell :=
  ⟨fun ⟨hbegun, hwithin, hclosed, hready⟩ => ⟨hbegun, hwithin, hclosed, hready⟩,
    fun h => ⟨h.begun, h.within, h.closed, h.ready⟩⟩

section Record

variable {input : Nat} {c : Capture}

theorem Capture.Sound.mono {after : Nat} (h : c.Sound input) (hafter : input ≤ after) :
    c.Sound after :=
  { h with closed := h.closed.trans (Int.ofNat_le.2 hafter) }

/-- R164 to R166: the record leaves READY, or stays out of it. -/
theorem Capture.Sound.leave {x : CapState} (h : c.Sound input) (hx : x ≠ .ready) :
    ({ c with state := x } : Capture).Sound input :=
  { h with ready := fun hready => absurd hready hx }

/-- R161: a capture begins with its cursor at its start cell. -/
theorem Capture.Sound.begin (hstart : c.start < c.stop) (hstop : c.stop ≤ input)
    (hcursor : c.cursor = c.start) : c.Sound input where
  begun := hcursor.ge
  within := hcursor.trans_le hstart.le
  closed := hstop
  ready := fun _ => hcursor.trans_lt hstart

/-- R163: a read delivers no cell at or above the end cell, and ends the capture where it reaches it. -/
theorem Capture.Sound.delivered (h : c.Sound input) : c.delivered.Sound input := by
  have hwithin := h.within
  have hshort : c.cursor + toDeliver c ≤ c.stop := by unfold toDeliver; omega
  exact
    { begun := h.begun.trans (le_add_of_nonneg_right (Int.natCast_nonneg _))
      within := hshort
      closed := h.closed
      ready := fun hready => lt_of_not_ge fun hreached => by
        have hdone : c.delivered.state = .done := if_pos hreached
        rw [hdone] at hready
        cases hready }

end Record

/-! ## Regime triggers -/

/-- What the marker unit's passes and the section ends make of the capture unit: at most one regime trigger
begins a capture, for a capture that has begun accepts no other (R162). -/
structure TriggersOnce (s t : State) : Prop where
  line : t.line = s.line
  profile : t.profile = s.profile
  capture : t.capture = s.capture ∨
    s.capture.state.accepts = true ∧ ∃ c n, t.capture = s.regimeCapture c n

theorem TriggersOnce.of_frame {fs : List Field} {s t : State} (h : SameBut fs s t)
    (hf : Field.line ∉ fs ∧ Field.profile ∉ fs ∧ Field.capture ∉ fs := by decide) :
    TriggersOnce s t where
  line := h .line hf.1
  profile := h .profile hf.2.1
  capture := .inl (h .capture hf.2.2)

theorem TriggersOnce.trans {s t u : State} (h : TriggersOnce s t) (k : TriggersOnce t u) :
    TriggersOnce s u where
  line := k.line.trans h.line
  profile := k.profile.trans h.profile
  capture := by
    rcases k.capture with hkept | ⟨haccepts, c, n, hbegun⟩
    · rw [hkept]
      exact h.capture
    · rcases h.capture with hsame | ⟨-, d, m, hready⟩
      · refine .inr ⟨by rwa [hsame] at haccepts, c, n, hbegun.trans ?_⟩
        simp only [State.regimeCapture, h.line, h.profile]
      · rw [hready] at haccepts
        cases haccepts

theorem TriggersOnce.refl (s : State) : TriggersOnce s s := .of_frame (.refl [] s)

theorem regimeTrigger_once (c : Car) (n : Nat) (s : State) :
    TriggersOnce s (regimeTrigger c n s) where
  line := regimeTrigger_frame c n s .line (by decide)
  profile := regimeTrigger_frame c n s .profile (by decide)
  capture := by
    cases haccepts : s.capture.state.accepts with
    | true =>
      rw [regimeTrigger_begins haccepts]
      exact .inr ⟨rfl, c, n, offerReport_frame _ _ .capture (by decide)⟩
    | false =>
      rw [regimeTrigger_misses haccepts]
      exact .inl (offerReport_frame _ _ .capture (by decide))

/-! ## Passes -/

theorem dropEmptied_once (w : Bool) (s : State) : TriggersOnce s (dropEmptied w s) :=
  (TriggersOnce.of_frame (setQueue_frame _ s)).trans (.of_frame (dropEmptied_notice w s))

theorem applyEntry_once (w : Bool) (c : Car) (n : Nat) (e : RegimeEntry) (s : State) :
    TriggersOnce s (applyEntry w c n e s) := by
  have happlied : TriggersOnce s (s.applied w c n e) :=
    (TriggersOnce.of_frame (setMarker_frame s _)).trans (dropEmptied_once w _)
  rw [applyEntry_eq]
  split
  · exact happlied.trans (regimeTrigger_once c n _)
  · exact happlied

theorem carPass_once (w : Bool) (c : Car) (q : List Marker) (s : State) :
    TriggersOnce s (carPass w c q s) := by
  induction q generalizing s with
  | nil => exact .refl s
  | cons m q ih =>
    unfold carPass
    split
    · split
      · dsimp only
        split
        · exact .of_frame (setRegime_frame _ _ _)
        · exact (applyEntry_once w c _ _ s).trans (ih _)
      · exact .refl s
    · exact ih s

theorem arbiter_own (s : State) : SameBut [.ports, .counters, .marker] s (arbiter s) := by
  unfold arbiter
  split
  · exact ((setMarker_frame _ _).mono (by decide)).trans ((offerReport_frame _ _).mono (by decide))
  · exact .refl _ _

theorem pass_once (w : Bool) (s : State) : TriggersOnce s (pass w s) := by
  have hturn : ∀ c t, TriggersOnce t (passCar w c t) := fun c t => by
    unfold passCar
    split
    · exact carPass_once w c _ t
    · exact .refl t
  have hturns : TriggersOnce s (forCars (passCar w) s) :=
    forCars_keeps (p := TriggersOnce s) (fun c t ht => ht.trans (hturn c t)) s (.refl s)
  exact hturns.trans (.of_frame (arbiter_own _))

/-! ## Section ends -/

theorem drainBank_once (bank : Bank) (s : State) : TriggersOnce s (drainBank bank s) :=
  ((((TriggersOnce.of_frame (setBankState_frame bank .draining s)).trans
    (.of_frame (enqueue_frame _ _ _ _ _ _))).trans (dropEmptied_once true _)).trans
      (pass_once true _)).trans (.of_frame (offerRoute_frame _ _ _ _ _))

theorem endTest_once (s : State) : TriggersOnce s (endTest s) := by
  have hchain : ∀ n t, TriggersOnce t (endChain n t) := by
    intro n
    induction n with
    | zero => exact .refl
    | succ n ih =>
      intro t
      unfold endChain
      split
      · exact .refl t
      · exact ((drainBank_once _ t).trans (.of_frame (chainOrUnknown_frame _ _))).trans (ih _)
  exact (hchain 2 s).trans (.of_frame (takeNotices_notice _))

theorem offerAnchor_once (cls : MarkerClass) (param : Byte) (cell : Nat) (s : State) :
    TriggersOnce s (offerAnchor cls param cell s) := by
  have hstart : ∀ bank n cause anchor, TriggersOnce s (endTest (startBank bank n cause anchor s)) :=
    fun bank n cause anchor =>
      (TriggersOnce.of_frame (startBank_frame bank n cause anchor s)).trans (endTest_once _)
  unfold offerAnchor
  split
  · exact .refl s
  · split
    · exact hstart _ _ _ _
    · split
      · exact hstart _ _ _ _
      · exact .refl s

/-! ## Markers and holds -/

theorem handleMarker_once (p : List Byte) (s : State) : TriggersOnce s (handleMarker p s) := by
  unfold handleMarker
  split
  · exact .refl s
  · split
    · exact .refl s
    · unfold offerMarker
      split
      · exact .of_frame (refuseMarker_frame _ _ _ _ _ _ s)
      · exact .of_frame (refuseMarker_frame _ _ _ _ _ _ s)
      · split
        · exact .of_frame (refuseMarker_frame _ _ _ _ _ _ s)
        · split
          · exact (TriggersOnce.of_frame (setMarker_frame s _)).trans
              (.of_frame (refuseMarker_frame _ _ _ _ _ _ _))
          · exact (((TriggersOnce.of_frame (enqueue_frame _ _ _ _ _ s)).trans
              (offerAnchor_once _ _ _ _)).trans (dropEmptied_once false _)).trans (pass_once false _)

theorem endHold_once (hold : Attention) (e : RegimeEntry) (s : State) :
    TriggersOnce s (endHold hold e s) := by
  rw [endHold_eq]
  exact (applyEntry_once false _ _ e s).trans (.of_frame (setMarker_frame _ _))

theorem attentionExpiry_once (s : State) : TriggersOnce s (attentionExpiry s) := by
  unfold attentionExpiry
  split
  · exact .refl s
  · exact (((endHold_once _ _ s).trans (.of_frame (setMarker_frame _ _))).trans
      (.of_frame (offerReport_frame _ _))).trans (pass_once false _)

theorem release_once (serial : Nat) (replacement : Option RegimeEntry) (s : State) :
    TriggersOnce s (release serial replacement s).2 := by
  by_cases hheld : ∃ hold ∈ s.marker.attention, hold.serial = serial
  · obtain ⟨hold, hhold, rfl⟩ := hheld
    rw [release_held replacement hhold, done_snd]
    exact (endHold_once hold _ s).trans (pass_once false _)
  · rw [release_refused replacement fun hold hhold e => hheld ⟨hold, hhold, e⟩]
    exact .refl s

theorem actAttentionRelease_once (p : List Byte) (s : State) :
    TriggersOnce s (actAttentionRelease p s).2 := by
  unfold actAttentionRelease
  split
  · exact .refl s
  · exact release_once _ _ s
  · split
    · exact .refl s
    · exact release_once _ _ s

theorem markerDisable_once (c : Car) (s : State) : TriggersOnce s (markerDisable c s) := by
  obtain ⟨t, ht, -, hframe⟩ := markerDisable_eq c s
  rw [ht]
  exact (((TriggersOnce.of_frame (setQueue_frame _ s)).trans (dropEmptied_once false _)).trans
    (.of_frame hframe)).trans (pass_once false t)

theorem actSetCarProfile_once (p : List Byte) (s : State) :
    TriggersOnce s (actSetCarProfile p s).2 := by
  rcases actSetCarProfile_cases p s with e | ⟨c, x, -, e⟩ <;> rw [e]
  · exact .refl s
  · have hwritten := TriggersOnce.of_frame (writeCarProfile_frame c x s)
    unfold applyCarProfile
    dsimp only
    split
    · split
      · exact hwritten.trans (.of_frame (enableCar_frame c _))
      · exact hwritten
    · split
      · exact hwritten
      · exact (hwritten.trans (.of_frame (enterStill_frame c .off _))).trans (markerDisable_once c _)

/-! ## The capture unit -/

section Kept

variable {s t : State}

theorem CaptureKept.of_frame {fs : List Field} (h : CaptureKept s) (k : SameBut fs s t)
    (hf : Field.profile ∉ fs ∧ Field.line ∉ fs ∧ Field.capture ∉ fs := by decide) :
    CaptureKept t where
  range := (congrArg LineProfile.inRange (k .profile hf.1)).trans h.range
  capture := by
    have hline : t.line = s.line := k .line hf.2.1
    have hcapture : t.capture = s.capture := k .capture hf.2.2
    rw [hline, hcapture]
    exact h.capture

/-- What changes no more than the capture record keeps it with a sound one. -/
theorem CaptureKept.setCapture {x : Capture} (h : CaptureKept s) (hx : x.Sound s.line.inputCell) :
    CaptureKept (s.setCapture x) := ⟨h.range, hx⟩

/-- What changes no more than the line keeps the record where the line has not got shorter. -/
theorem CaptureKept.setLine {l : Line} (h : CaptureKept s) (hl : s.line.inputCell ≤ l.inputCell) :
    CaptureKept (s.setLine l) := ⟨h.range, h.capture.mono hl⟩

/-- R162: a triggered capture is not empty, and ends at the newest closed cell. -/
theorem CaptureKept.triggered (h : CaptureKept s) (k : TriggersOnce s t) : CaptureKept t where
  range := (congrArg LineProfile.inRange k.profile).trans h.range
  capture := by
    rw [k.line]
    rcases k.capture with hsame | ⟨-, c, n, hbegun⟩
    · rw [hsame]
      exact h.capture
    · have hleast := LineProfile.captureLength_least h.range
      rw [hbegun]
      refine .begin ?_ (le_refl _) rfl
      simp only [State.regimeCapture]
      omega

theorem beginCapture_captureKept {mode : CapMode} {source : CapSource} {car : Option Car}
    {serial : Option Nat} {start stop : Int} (h : CaptureKept s) (hstart : start < stop)
    (hstop : stop ≤ s.line.inputCell) :
    CaptureKept (beginCapture mode source car serial start stop s) :=
  (h.setCapture (.begin hstart hstop rfl)).of_frame (offerCapture_frame _ _ _)

theorem overtakingTest_captureKept (h : CaptureKept s) : CaptureKept (overtakingTest s) := by
  unfold overtakingTest
  split
  · exact (h.setCapture (h.capture.leave (by decide))).of_frame (offerCapture_frame _ _ _)
  · exact h

/-! ## Advances and line clears -/

/-- R166: a line clear leaves the input cell number where it was, and the record IDLE. -/
theorem lineClear_captureKept (own : Option Report) (h : CaptureKept s) :
    CaptureKept (lineClear own s) where
  range := (congrArg LineProfile.inRange (lineClear_frame own s .profile (by decide))).trans h.range
  capture := by
    rw [lineClear_line, lineClear_capture]
    exact h.capture.leave (by decide)

theorem answerAdvance_captureKept (task : Task) (h : CaptureKept s) :
    CaptureKept (answerAdvance task s) := by
  cases task with
  | marker => exact h.triggered (pass_once false s)
  | route => exact h.triggered (endTest_once s)
  | capture => exact overtakingTest_captureKept h
  | report r => exact h.of_frame (offerReport_frame r s)

theorem runAdvance_captureKept (tasks : List Task) (h : CaptureKept s) :
    CaptureKept (runTasks answerAdvance tasks s) := by
  induction tasks generalizing s with
  | nil => exact h
  | cons task tasks ih => exact ih (answerAdvance_captureKept task h)

/-- R57: an advance raises the input cell number, and its answers keep the record. -/
theorem advance_captureKept (k : Nat) (own : State → Option Report) (h : CaptureKept s) :
    CaptureKept (advance k own s) := by
  unfold advance
  split
  · split
    · exact h.of_frame (offerReport_frame _ _)
    · exact h
  · dsimp only
    obtain ⟨tasks, n, e⟩ := answerAll_cases answerAdvance
      ((advanceLine (s.line.cut k) s).advanceDue (own (advanceLine (s.line.cut k) s)))
      (own (advanceLine (s.line.cut k) s)) (advanceLine (s.line.cut k) s)
    rw [e]
    exact runAdvance_captureKept tasks
      ((h.setLine (Nat.le_add_right _ _)).of_frame (setBook_frame _ _))

theorem handleOdometry_captureKept (p : List Byte) (h : CaptureKept s) :
    CaptureKept (handleOdometry p s) := by
  obtain ⟨u, v, hbefore, hmove, hafter⟩ := handleOdometry_step p s
  have hu := h.of_frame hbefore
  refine CaptureKept.of_frame ?_ hafter
  cases hmove with
  | stay => exact hu
  | advance k own => exact advance_captureKept k own hu
  | clear own => exact lineClear_captureKept own hu

theorem restartBlocks_captureKept (h : CaptureKept s) : CaptureKept (restartBlocks s) := by
  obtain ⟨own, u, hbefore, e⟩ := restartBlocks_eq s
  rw [e]
  exact (lineClear_captureKept own (h.of_frame hbefore)).of_frame (setMarker_frame _ _)

/-! ## Samples -/

theorem feedCell_inputCell (fused : Option (Int × SampleQuality)) (s : State) :
    (feedCell fused s).line.inputCell = s.line.inputCell := by
  cases fused <;> rfl

theorem takeSample_inputCell (x : Channel) (v : Sample) (s : State) :
    (takeSample x v s).line.inputCell = s.line.inputCell := by
  rw [takeSample_eq rfl rfl rfl, State.setSensor_line, feedCell_inputCell, tellPair_line,
    tellPair_line]

/-- R50, R56: of the line, a SENSOR frame reaches the accumulator of the open cell alone. -/
theorem handleSensor_inputCell (x : Channel) (p : List Byte) (s : State) :
    (handleSensor x p s).line.inputCell = s.line.inputCell := by
  unfold handleSensor
  split
  · rfl
  · split
    · exact takeSample_inputCell _ _ s
    · split
      · unfold takeFault
        split
        · rfl
        · rw [loseChannel_line]
      · rfl

theorem CaptureKept.of_sensor (h : CaptureKept s) (k : SameBut sensorFields s t)
    (hcell : t.line.inputCell = s.line.inputCell) : CaptureKept t where
  range := (congrArg LineProfile.inRange (k .profile (by decide))).trans h.range
  capture := by
    have hcapture : t.capture = s.capture := k .capture (by decide)
    rw [hcapture, hcell]
    exact h.capture

theorem handleSensor_captureKept (x : Channel) (p : List Byte) (h : CaptureKept s) :
    CaptureKept (handleSensor x p s) :=
  h.of_sensor (handleSensor_frame x p s) (handleSensor_inputCell x p s)

theorem channelExpiry_captureKept (x : Channel) (h : CaptureKept s) :
    CaptureKept (channelExpiry x s) :=
  h.of_sensor (channelExpiry_frame x s) (congrArg Line.inputCell (channelExpiry_line x s))

theorem deliver_captureKept (role : Role) (p : List Byte) (h : CaptureKept s) :
    CaptureKept (deliver role p s) := by
  cases role with
  | sensorP => exact handleSensor_captureKept .p p h
  | sensorQ => exact handleSensor_captureKept .q p h
  | odometry => exact handleOdometry_captureKept p h
  | markerReader => exact h.triggered (handleMarker_once p s)
  | unitStatus => exact h.of_frame (handleUnitStatus_frame p s)
  | manager => exact h

/-! ## Requests -/

theorem actSetLineProfile_captureKept (p : List Byte) (h : CaptureKept s) :
    CaptureKept (actSetLineProfile p s).2 := by
  unfold actSetLineProfile
  split
  · exact h
  · split
    · exact h
    · rename_i hrange
      have hset : CaptureKept (s.setProfile (readLineProfile p)) :=
        ⟨by simpa using hrange, h.capture⟩
      rw [done_snd]
      unfold writeProfile
      split
      · exact hset
      · exact lineClear_captureKept _ hset

/-- R161: a stretch that begins has at least 16 cells, or begins below the open cell. -/
theorem actCaptureStart_captureKept (p : List Byte) (h : CaptureKept s) :
    CaptureKept (actCaptureStart p s).2 := by
  unfold actCaptureStart
  dsimp only
  split
  · exact h
  · split
    · exact h
    · split
      · exact h
      · rename_i hfits
        rw [Bool.not_eq_true', Bool.not_eq_false, captureLengthFits_iff] at hfits
        obtain ⟨-, hleast, -⟩ := hfits
        split
        · exact beginCapture_captureKept h (by omega) (le_refl _)
        · split
          · exact h
          · rename_i hinside
            rw [Bool.not_eq_true', Bool.not_eq_false, State.startFits_iff] at hinside
            obtain ⟨-, -, hbelow⟩ := hinside
            exact beginCapture_captureKept h (lt_min (by omega) (by omega)) (min_le_right _ _)

theorem actCaptureRead_captureKept (p : List Byte) (h : CaptureKept s) :
    CaptureKept (actCaptureRead p s).2 := by
  unfold actCaptureRead
  split
  · exact h
  · exact h
  · exact h
  · split
    · exact overtakingTest_captureKept h
    · exact h.setCapture h.capture.delivered

theorem actCaptureRelease_captureKept (p : List Byte) (h : CaptureKept s) :
    CaptureKept (actCaptureRelease p s).2 :=
  h.setCapture (h.capture.leave (by decide))

theorem act_captureKept {name : RequestName} {act : List Byte → State → Reply × State}
    (hact : name.act = some act) (p : List Byte) (h : CaptureKept s) : CaptureKept (act p s).2 := by
  have hframe := act_frame hact p s
  cases name <;> cases hact
  case setLineProfile => exact actSetLineProfile_captureKept p h
  case setCarProfile => exact h.triggered (actSetCarProfile_once p s)
  case attentionRelease => exact h.triggered (actAttentionRelease_once p s)
  case captureStart => exact actCaptureStart_captureKept p h
  case captureRead => exact actCaptureRead_captureKept p h
  case captureRelease => exact actCaptureRelease_captureKept p h
  all_goals exact h.of_frame hframe (by decide)

end Kept

/-! ## The settled obligation -/

theorem captureKept_invariant : BlockInvariant CaptureKept where
  traffic := fun k h => h.of_frame k.frame
  reset := ⟨by decide, (captureSound_iff .reset).1 (by decide)⟩
  deliver := fun role p _ h => deliver_captureKept role p h
  odometryExpiry := fun s h => h.of_frame (odometryExpiry_own s)
  channelExpiry := fun x _ h => channelExpiry_captureKept x h
  commandExpiry := fun s h => h.of_frame (commandExpiry_frame s)
  attentionExpiry := fun s h => h.triggered (attentionExpiry_once s)
  restart := fun _ h => restartBlocks_captureKept h
  act := fun hact p _ h => act_captureKept hact p h

/-- Settles O59: a capture begins on closed cells, a stretch of at least one; a read leaves READY where it
reaches the end cell; and the input cell number falls at a reset alone. -/
theorem captureStaysSound : Obligations.CaptureStaysSound := by
  intro s t hprofiles hs hstep
  rw [captureSound_iff] at hs ⊢
  exact (captureKept_invariant.step hstep ⟨hprofiles.1, hs⟩).capture

end Sys2Proof.Machine
end

section
/-! The step of the part with commands waiting (R171): one command, that at the front of the queue. -/

set_option Elab.async false

namespace Sys2Proof.Machine

/-! ## The settled obligation -/

/-- Settles O1: of the two branches of `step` a queue with a front takes the second. -/
theorem stepRunsFrontCommand : Obligations.StepRunsFrontCommand := by
  intro c rest s hfront
  unfold step
  split
  · next hempty => exact absurd (hfront.symm.trans hempty) (List.cons_ne_nil c rest)
  · next front others hpending =>
    obtain ⟨rfl, rfl⟩ := List.cons.inj (hpending.symm.trans hfront)
    rfl

end Sys2Proof.Machine
end
